-- ==== Sys2Proof/Word.lean ====
section
/-! DEFINITION. The byte type and the index types of the BQ-4816's collections (00_scope.md, "Indices"). -/

namespace Sys2Proof

/-- A byte of the management port or of the row link. -/
abbrev Byte := BitVec 8

/-- Outlets 0..47. -/
abbrev OutletIx := Fin 48

/-- Tenant slots 0..15. -/
abbrev SlotIx := Fin 16

/-- Branches 0..5. -/
abbrev BranchIx := Fin 6

/-- Places 0..127 of the Contribution Table's dynamic entries (R82). -/
abbrev PlaceIx := Fin 128

/-- Fixed entries 1..8 (R83), counted from 0 here: entry number n is index n − 1. -/
abbrev FixedIx := Fin 8

/-- Temperature bands 0..3 (R21). -/
abbrev Band := Fin 4

/-- The 48 relay feedback inputs: bit n is 1 when outlet n's contact shows CLOSED (R10). -/
abbrev Contacts := BitVec 48

end Sys2Proof
end

