-- ==== Sys2Proof/Syntax.lean ====
section
/-! DEFINITION. The commands of the BQ-4816: one constructor per row of spec/opcode_table.json, with the operands
the chapters give it. -/

namespace Sys2Proof

/-- A command record as it was clocked in (R159, R179): its parameter bytes (their number is the length byte) and the
bytes clocked beyond the record, which are ignored but count as clocked. -/
structure Record where
  params : List Byte
  trailing : List Byte
deriving DecidableEq, Repr

/-- The status a front end's reply carries (R25): OK, CLIPPED, or anything else. -/
inductive FrontEndStatus where
  | ok
  | clipped
  | other
deriving DecidableEq, Repr

/-- A front end's reply to a reading request (R25): the signed real-power count, the apparent-power count, the current
count and the status. -/
structure FrontEndReply where
  pRaw : BitVec 16
  sRaw : BitVec 16
  iRaw : BitVec 16
  status : FrontEndStatus
deriving DecidableEq, Repr

/-- How a read of the board sensor ended (R20): no acknowledge, or a temperature in tenths of a degree. -/
inductive TempResult where
  | noAcknowledge
  | temperature (tenths : Int)
deriving DecidableEq, Repr

/-- A frame read from the row link (R64, R75, R176): its bytes, whether every stop bit was read recessive, and whether
this station drove any bit beyond the arbitration key in the frame's time. -/
structure LineFrame where
  bytes : List Byte
  stopBitsGood : Bool
  droveBeyondKey : Bool
deriving DecidableEq, Repr

/-- The commands, in the order of spec/opcode_table.json. -/
inductive Instr where
  /-- POWER_ON (R167) -/
  | powerOn
  /-- RESET_PIN_ASSERT (R167) -/
  | resetPinAssert
  /-- RESET_PIN_RELEASE (R167) -/
  | resetPinRelease
  /-- NO_COMMAND_TRANSACTION (R159): the bytes clocked in -/
  | noCommandTransaction (bytes : List Byte)
  /-- CUT_SHORT_RECORD (R159): code, length byte, and the fewer parameter bytes that came -/
  | cutShortRecord (code len : Byte) (given : List Byte)
  /-- UNKNOWN_COMMAND_CODE (R160) -/
  | unknownCommandCode (code : Byte) (rec : Record)
  /-- READ_STATUS (R168) -/
  | readStatus (rec : Record)
  /-- READ_TENANT (R60) -/
  | readTenant (rec : Record)
  /-- READ_OUTLET (R169) -/
  | readOutlet (rec : Record)
  /-- READ_BRANCH (R123) -/
  | readBranch (rec : Record)
  /-- READ_CONTRIBUTION (R97) -/
  | readContribution (rec : Record)
  /-- SET_CURSOR (R96) -/
  | setCursor (rec : Record)
  /-- READ_NOTICES (R174) -/
  | readNotices (rec : Record)
  /-- LOAD_STATION (R4) -/
  | loadStation (rec : Record)
  /-- LOAD_TENANT (R1) -/
  | loadTenant (rec : Record)
  /-- LOAD_OUTLET (R5) -/
  | loadOutlet (rec : Record)
  /-- LOAD_CALIBRATION (R5) -/
  | loadCalibration (rec : Record)
  /-- LOAD_BRANCH (R18) -/
  | loadBranch (rec : Record)
  /-- LOAD_FIXED (R83) -/
  | loadFixed (rec : Record)
  /-- START (R163): with the contact levels that adoption reads -/
  | start (rec : Record) (pins : Contacts)
  /-- RESTART (R166) -/
  | restart (rec : Record)
  /-- OUTLET_OPEN (R15) -/
  | outletOpen (rec : Record) (pins : Contacts)
  /-- OUTLET_CLOSE (R16) -/
  | outletClose (rec : Record) (pins : Contacts)
  /-- REARM (R144) -/
  | rearm (rec : Record) (pins : Contacts)
  /-- SET_BAND (R171) -/
  | setBand (rec : Record)
  /-- CLEAR_COUNTERS (R156) -/
  | clearCounters (rec : Record)
  /-- SWEEP_TIMER_EXPIRY (R19) -/
  | sweepTimerExpiry
  /-- TEMP_READ_END (R20) -/
  | tempReadEnd (result : TempResult)
  /-- TEMP_READ_TIMEOUT (R20) -/
  | tempReadTimeout
  /-- READING_REPLY (R26) -/
  | readingReply (reply : FrontEndReply)
  /-- READING_TIMEOUT (R25) -/
  | readingTimeout
  /-- LATE_REPLY (R25) -/
  | lateReply (reply : FrontEndReply)
  /-- SETTLE_COUNTDOWN_END (R34) -/
  | settleCountdownEnd (outlet : OutletIx)
  /-- ENTER_RUN (R165) -/
  | enterRun
  /-- TALLY_TIMER_EXPIRY (R40) -/
  | tallyTimerExpiry
  /-- ECT_TALLY_COMPLETION (R149) -/
  | ectTallyCompletion
  /-- CUR_TALLY_COMPLETION (R101) -/
  | curTallyCompletion (pins : Contacts)
  /-- RLC_TALLY_COMPLETION (R70) -/
  | rlcTallyCompletion
  /-- BRM_SWEEP_COMPLETION (R124) -/
  | brmSweepCompletion (pins : Contacts)
  /-- MISMATCH_CHECK (R142) -/
  | mismatchCheck (pins : Contacts)
  /-- AGING_TIMER_EXPIRY (R92) -/
  | agingTimerExpiry
  /-- PENDING_ADJUSTMENT_EXPIRY (R95) -/
  | pendingAdjustmentExpiry (place : PlaceIx)
  /-- SETTLE_TIMER_EXPIRY (R116) -/
  | settleTimerExpiry (slot : SlotIx)
  /-- RETRY_TIMER_EXPIRY (R78) -/
  | retryTimerExpiry
  /-- STAGGER_TIMER_EXPIRY (R137) -/
  | staggerTimerExpiry (pins : Contacts)
  /-- FEEDBACK_TARGET_SENSED (R139) -/
  | feedbackTargetSensed (pins : Contacts)
  /-- COIL_PULSE_END (R138) -/
  | coilPulseEnd (pins : Contacts)
  /-- FEEDBACK_WINDOW_TIMEOUT (R140) -/
  | feedbackWindowTimeout (pins : Contacts)
  /-- PULSE_END_ADOPTION (R146) -/
  | pulseEndAdoption (outlet : OutletIx) (pins : Contacts)
  /-- CONTEND_ON_IDLE_LINE (R65) -/
  | contendOnIdleLine
  /-- ARBITRATION_LOST (R65) -/
  | arbitrationLost
  /-- TRANSMIT_SUCCESS (R66) -/
  | transmitSuccess
  /-- TRANSMIT_FAILURE (R66) -/
  | transmitFailure
  /-- FRAME_RECEIVED (R75) -/
  | frameReceived (frame : LineFrame)
  /-- CTB_NOTE (R94) -/
  | ctbNote
  /-- CUR_NOTE (R115) -/
  | curNote
deriving DecidableEq, Repr

end Sys2Proof
end

