-- ==== Sys2Proof/Decode.lean ====
section
/-! DEFINITION. Bytes as commands. A transaction's bytes are read as a command record (R159, R179, R180). The command that a
table word spells: no row of spec/opcode_table.json gives bits (98_reader.md counts 0 rows with fixed bits and 0 with
fields), so no word spells one. -/

namespace Sys2Proof

/-- The command that a code names (R180's table); a code that names none is UNKNOWN_COMMAND_CODE (R160 check 1). START and
the outlet commands also present the levels of the contact inputs (log entry 8). -/
def commandOf (code : Byte) (r : Record) (pins : Contacts) : Instr :=
  match code.toNat with
  | 1 => .readStatus r
  | 2 => .readTenant r
  | 3 => .readOutlet r
  | 4 => .readBranch r
  | 5 => .readContribution r
  | 6 => .setCursor r
  | 7 => .readNotices r
  | 16 => .loadStation r
  | 17 => .loadTenant r
  | 18 => .loadOutlet r
  | 19 => .loadCalibration r
  | 20 => .loadBranch r
  | 21 => .loadFixed r
  | 32 => .start r pins
  | 33 => .restart r
  | 48 => .outletOpen r pins
  | 49 => .outletClose r pins
  | 50 => .rearm r pins
  | 51 => .setBand r
  | 52 => .clearCounters r
  | _ => .unknownCommandCode code r

/-- The command of a transaction, by the bytes clocked in (R159, R179): code at offset 0, parameter length at 1, parameters
from 2. Fewer than two bytes, or code 0, carry none; fewer parameter bytes than the length byte gives are a cut-short
record; bytes beyond the record are no part of it. -/
def readTransaction (bytes : List Byte) (pins : Contacts) : Instr :=
  match bytes with
  | code :: len :: rest =>
    if code = 0 then .noCommandTransaction bytes
    else if rest.length < len.toNat then .cutShortRecord code len rest
    else commandOf code ⟨rest.take len.toNat, rest.drop len.toNat⟩ pins
  | [] => .noCommandTransaction bytes
  | [_] => .noCommandTransaction bytes

/-- The command that a word of `nbits` bits spells by the table's bits: none, since no row gives any (log entry 29). -/
def decodeTableWord (nbits w : Nat) : Option Instr :=
  match nbits, w with
  | _, _ => none

end Sys2Proof
end

