-- ==== Sys2Proof/Config.lean ====
section
/-! DEFINITION. What the part fixes: capacities, times and limits, each from the rule named. No value of this spec is
left undefined, so no opaque constant stands here (log entry 27). -/

namespace Sys2Proof.Config

/-- Ticks of 4 µs, one bit time of the row link (R64), in a millisecond. Log entry 1. -/
def ticksPerMs : Nat := 250

/-- Sweep period, 100 ms (R19). -/
def sweepTicks : Nat := 100 * ticksPerMs
/-- Limit of a sensor read, 5 ms (R20). -/
def tempReadTicks : Nat := 5 * ticksPerMs
/-- Limit of a reading request, 1.5 ms (R25). -/
def requestTicks : Nat := 375
/-- Tally period, 1,000 ms (R38). -/
def tallyTicks : Nat := 1000 * ticksPerMs
/-- One second, the unit of T and X (R91, R94, R114). -/
def secondTicks : Nat := 1000 * ticksPerMs
/-- Retry period of DOWN, 5 s (R78). -/
def retryTicks : Nat := 5 * secondTicks
/-- Unit of the stagger gap, 10 ms (R137). -/
def staggerUnitTicks : Nat := 10 * ticksPerMs
/-- Coil pulse, 20 ms (R138). -/
def pulseTicks : Nat := 20 * ticksPerMs
/-- Feedback window, 100 ms (R138). -/
def windowTicks : Nat := 100 * ticksPerMs

/-- Capacity of the urgent lane (R132). -/
def urgentCapacity : Nat := 8
/-- Capacity of the standard lane (R132). -/
def standardCapacity : Nat := 32
/-- Capacity of the transmit queue (R72). -/
def txCapacity : Nat := 8
/-- Notices the ring holds at most (R172). -/
def noticeCapacity : Nat := 63
/-- Warm-up sweeps (R35). -/
def warmupSweeps : Nat := 8
/-- Consecutive silent visits that make an outlet stale (R31). -/
def staleMisses : Nat := 4
/-- Failed attempts after which a frame is discarded (R66). -/
def maxAttempts : Nat := 4
/-- Consecutive transmit failures at which the link goes DOWN (R66, R78). -/
def maxFailures : Nat := 16
/-- The receive-error count stays here (R75). -/
def maxRxErrors : Nat := 65535
/-- dW·s in a Wh (00_scope.md, "Energy"; R152). -/
def wattHour : Nat := 36000
/-- Modulus of the tally count and of a Wh count (R39, R155). -/
def word32 : Nat := 4294967296
/-- Upper clamp of P and S (R29). -/
def maxPower : Nat := 40000
/-- Upper clamp of I (R29). -/
def maxCurrent : Nat := 20000

end Sys2Proof.Config
end

