-- ==== Sys2Proof/Machine/State.lean ====
section
/-! DEFINITION. The state of the BQ-4816: what each block holds (00_scope.md, "Blocks and how they work together"), as
plain data, and its values after power-on and the reset pin. -/

namespace Sys2Proof.Machine

/-- A timer: stopped, or running with this many ticks left (Config.ticksPerMs to the millisecond). -/
abbrev Timer := Option Nat

/-- Phases of a station (R161). -/
inductive Phase where
  | config | warmup | run
deriving DecidableEq, Repr

/-- Link states (R77 to R80). -/
inductive Link where
  | off | listen | active | down | silent
deriving DecidableEq, Repr

/-- A relay position: commanded state (R8), feedback state (R10), target of an action (R138). -/
inductive Position where
  | closed | opened
deriving DecidableEq, Repr

/-- Why an outlet is commanded OPEN (R8). -/
inductive ShedReason where
  | none | tenant | branch | manual
deriving DecidableEq, Repr

/-- Whether an outlet's relay is trusted (R11). -/
inductive Actuator where
  | enabled | faulted
deriving DecidableEq, Repr

/-- Where an outlet's draw goes (R6). -/
inductive OutletClass where
  | contracted | billed | exempt
deriving DecidableEq, Repr

/-- Count modes (R2). -/
inductive CountMode where
  | real | apparent
deriving DecidableEq, Repr

/-- Tenant states (R54, R56); `overdrawn` is the state the spec calls OVER. -/
inductive TenantState where
  | idle | uncontracted | within | burst | overdrawn | recovery
deriving DecidableEq, Repr

/-- Reading statuses (R29, R30). -/
inductive ReadingStatus where
  | ok | clipped
deriving DecidableEq, Repr

/-- Action kinds (R132). -/
inductive ActionKind where
  | openRelay | closeRelay | rearm
deriving DecidableEq, Repr

/-- Which unit asked for an action (R132). -/
inductive Origin where
  | tenant | branch | manual
deriving DecidableEq, Repr

/-- The two lanes (R132). -/
inductive Lane where
  | urgent | standard
deriving DecidableEq, Repr

/-- How an action was retired (R139, R140, R143, R134). -/
inductive Completion where
  | done | feedbackTimeout | outletFaulted | superseded
deriving DecidableEq, Repr

/-- Causes of an OUTLET_FAULT (R140, R142). -/
inductive FaultCause where
  | timeout | spontaneous
deriving DecidableEq, Repr

/-- Directions of a NOTE and of a pending adjustment (R71, R82). -/
inductive NoteDirection where
  | shed | restore
deriving DecidableEq, Repr

/-- Branch states (R123). -/
inductive BranchState where
  | normal | overload | tripping | shed
deriving DecidableEq, Repr

/-- Which counter wrapped (R155). -/
inductive CounterKind where
  | energy | overage
deriving DecidableEq, Repr

/-- Reply statuses (R160). -/
inductive Status where
  | ok | wrongState | badArgument | badConfig | busy | queueFull | unknownCommand
deriving DecidableEq, Repr

/-- A set of three values of one outlet: P in dW, S in dVA, I in mA (R9, R41). -/
structure Draw where
  p : Nat
  s : Nat
  i : Nat
deriving DecidableEq, Repr

/-- An outlet's reading (R30). -/
structure Reading where
  draw : Draw
  status : ReadingStatus
  stale : Bool
  misses : Nat
deriving DecidableEq, Repr

/-- A counter of the ECT (R148). -/
structure Counter where
  count : Nat
  residue : Nat
  overflow : Bool
deriving DecidableEq, Repr

/-- The station-wide parameters (R4). -/
structure Station where
  id : Nat
  exchange : Nat
  settleTallies : Nat
  settleSweeps : Nat
  staggerGap : Nat
  autoBand : Bool
  manualBand : Band
  attnThreshold : Nat
  kindMask : BitVec 18
deriving DecidableEq, Repr

/-- A tenant slot's configured fields (R2); free when the tenant ID is absent (R1). -/
structure Tenant where
  tenantId : Option Nat
  contractCode : Nat
  burst : Nat
  mode : CountMode
  allowance : Nat
  restorePercent : Nat
  restoreHold : Nat
deriving DecidableEq, Repr

/-- A coil pulse left running by a RESTART (R147): the position it drives the relay toward, and its ticks left. -/
structure CoilPulse where
  toward : Position
  left : Nat
deriving DecidableEq, Repr

/-- An outlet record (R5, R8 to R12, R30, R33, R148), with the coil pulse a RESTART may have left running (R147). The
pending action is found in the lanes (log entry 10). -/
structure Outlet where
  slot : Option SlotIx
  cls : OutletClass
  rank : Fin 16
  gains : Vector Nat 4
  offset : Int
  commanded : Position
  reason : ShedReason
  remembered : Option Draw
  feedback : Position
  actuator : Actuator
  reading : Reading
  countdown : Nat
  direction : Option Position
  energy : Counter
  residualPulse : Option CoilPulse
deriving DecidableEq, Repr

/-- What the OSU is doing within a sweep (R20, R24): nothing, reading the sensor, or waiting for a reply; with the ticks
left of the 5 ms or of the 1.5 ms. -/
inductive SweepStage where
  | idle
  | readingSensor (left : Nat)
  | requesting (left : Nat)
deriving DecidableEq, Repr

/-- The Outlet Scan Unit (R19 to R37). -/
structure Osu where
  sweepTimer : Timer
  owed : Bool
  stage : SweepStage
  scan : OutletIx
  band : Band
  sensorFail : Bool
  warmup : Nat
deriving DecidableEq, Repr

/-- A slot runtime record (R58). -/
structure SlotRuntime where
  state : TenantState
  localDraw : Nat
  aggregate : Nat
  contract : Nat
  allowance : Nat
  credit : Nat
  uncovered : Nat
  lastTally : Nat
deriving DecidableEq, Repr

/-- The Tally Unit (R38, R39, R58). -/
structure Tly where
  timer : Timer
  count : Nat
  slots : Vector SlotRuntime 16
deriving DecidableEq, Repr

/-- A shed or restore candidate as a summary carries it (R68, R82). -/
structure Candidate where
  rank : Nat
  draw : Nat
deriving DecidableEq, Repr

/-- A pending adjustment (R82, R94), with the ticks left to its expiry. `oldDue`: it has replaced one whose expiry falls in
this same moment and no longer applies (R95; log entry 32). -/
structure Adjustment where
  direction : NoteDirection
  draw : Nat
  left : Nat
  oldDue : Bool
deriving DecidableEq, Repr

/-- A dynamic entry (R82). -/
structure DynEntry where
  slot : SlotIx
  station : Nat
  contribution : Nat
  code : Nat
  state : TenantState
  shed : Option Candidate
  restore : Option Candidate
  age : Nat
  stamp : Nat
  adjustment : Option Adjustment
  mismatch : Bool
deriving DecidableEq, Repr

/-- A loaded fixed entry (R83). -/
structure FixedEntry where
  slot : SlotIx
  contribution : Nat
  covers : Option Nat
deriving DecidableEq, Repr

/-- A received NOTE as it is handed to the CTB and to the CUR (R76). -/
structure HeardNote where
  slot : SlotIx
  station : Nat
  direction : NoteDirection
  rank : Nat
  draw : Nat
  stamp : Nat
deriving DecidableEq, Repr

/-- The Contribution Table (R82 to R99), with the NOTEs handed to it and not yet taken (log entry 5). -/
structure Ctb where
  dyn : Vector (Option DynEntry) 128
  fixed : Vector (Option FixedEntry) 8
  timer : Timer
  full : Bool
  notes : List HeardNote
deriving DecidableEq, Repr

/-- A tenant entry of a SUMMARY (R68). -/
structure SummaryEntry where
  tenantId : Nat
  contribution : Nat
  code : Nat
  state : TenantState
  shed : Option Candidate
  restore : Option Candidate
deriving DecidableEq, Repr

/-- The content of a frame beside its key's station ID (R67, R68, R71). -/
inductive FrameContent where
  | announce (slots : Nat)
  | summary (stamp segment : Nat) (last : Bool) (entries : List SummaryEntry)
  | note (tenantId : Nat) (direction : NoteDirection) (rank draw stamp : Nat)
deriving DecidableEq, Repr

/-- A frame of the transmit queue with its failed attempts so far (R72). -/
structure TxFrame where
  content : FrameContent
  attempts : Nat
deriving DecidableEq, Repr

/-- The Row Link Controller (R64 to R81). The transmit queue is the frame on the line, if any, then the NOTE run, then the
SUMMARY/ANNOUNCE run (R72; log entry 11). `tryOther`: the try of DOWN under way is for the frame at the front of the
SUMMARY/ANNOUNCE run, which was at the head at the retry timer's expiry and has not yet contended (R78; log entry 33). -/
structure Rlc where
  link : Link
  onLine : Option TxFrame
  noteRun : List TxFrame
  otherRun : List TxFrame
  failures : Nat
  rxErrors : Nat
  retry : Timer
  tryOn : Bool
  tryOther : Bool
  tallies : List Nat
deriving DecidableEq, Repr

/-- The CUR's items for one slot (R100). `oldDue`: the settle timer was started again in the moment in which it ran out, and
that running out no longer applies (R116; log entry 32). -/
structure CurSlot where
  settle : Timer
  hold : Nat
  uncurtailable : Bool
  oldDue : Bool
deriving DecidableEq, Repr

/-- The Curtailment Unit (R100), with the completions and NOTEs handed to it and not yet taken. -/
structure Cur where
  slots : Vector CurSlot 16
  tallies : List Nat
  notes : List HeardNote
deriving DecidableEq, Repr

/-- A branch record, configured part (R18) and runtime part (R123). -/
structure Branch where
  limit : Nat
  tripDelay : Nat
  restorePercent : Nat
  restoreHold : Nat
  state : BranchState
  current : Nat
  overCount : Nat
  holdCount : Nat
  tripped : Option OutletIx
  unprotectable : Bool
deriving DecidableEq, Repr

/-- The Branch Monitor, with the sweep completions handed to it and not yet taken (R36). -/
structure Brm where
  branches : Vector Branch 6
  sweeps : Nat
deriving DecidableEq, Repr

/-- An action (R132). Its lane follows from kind and origin. -/
structure Action where
  outlet : OutletIx
  kind : ActionKind
  origin : Origin
  slot : Option SlotIx
deriving DecidableEq, Repr

/-- The action in flight (R138): ticks left of its coil pulse while the pulse is driven, ticks left of its feedback
window, and whether the feedback has shown the target. -/
structure InFlight where
  action : Action
  pulse : Timer
  window : Nat
  targetSeen : Bool
deriving DecidableEq, Repr

/-- The Relay Sequencer (R132 to R147), with the sweep completions its mismatch check has not yet taken (R36). -/
structure Rsq where
  urgent : List Action
  standard : List Action
  inFlight : Option InFlight
  stagger : Timer
  sweeps : Nat
deriving DecidableEq, Repr

/-- A slot's counters (R148). -/
structure SlotCounters where
  energy : Counter
  overage : Counter
  lastAttributed : Nat
deriving DecidableEq, Repr

/-- The Energy Counters' slot part (R148), with the completions not yet taken. The outlets' counters are in the outlet
records. -/
structure Ect where
  slots : Vector SlotCounters 16
  tallies : List Nat
deriving DecidableEq, Repr

/-- A reply (R160, R179). -/
structure Reply where
  code : Byte
  status : Status
  data : List Byte
deriving DecidableEq, Repr

/-- The Management Port (R159, R161, R96). -/
structure Mpt where
  phase : Phase
  buffer : Option Reply
  ready : Bool
  cursor : Fin 136
deriving DecidableEq, Repr

/-- The notice kinds with their fields (R173). -/
inductive NoticeBody where
  | tenantState (slot : SlotIx) (old new : TenantState)
  | shedElected (slot : SlotIx) (outlet : OutletIx) (rank draw : Nat)
  | restoreElected (slot : SlotIx) (outlet : OutletIx) (rank draw : Nat)
  | uncurtailable (slot : SlotIx)
  | contractMismatch (slot : SlotIx) (station code : Nat)
  | peerExpired (slot : SlotIx) (station : Nat)
  | tableFull (slot : SlotIx) (station : Nat)
  | outletStale (outlet : OutletIx)
  | outletFresh (outlet : OutletIx)
  | actionDone (outlet : OutletIx) (kind : ActionKind) (origin : Origin) (status : Completion)
  | outletFault (outlet : OutletIx) (cause : FaultCause)
  | branchTrip (branch : BranchIx) (outlet : OutletIx)
  | branchUnprotectable (branch : BranchIx)
  | duplicateStation
  | linkDown
  | linkUp
  | outletWrap (outlet : OutletIx)
  | slotWrap (slot : SlotIx) (counter : CounterKind)
  | tempSensorFail
deriving DecidableEq, Repr

/-- A notice: its tally stamp and its kind with fields (R172). -/
structure Notice where
  stamp : Nat
  body : NoticeBody
deriving DecidableEq, Repr

/-- The Notice Queue (R172). -/
structure Nq where
  queue : List Notice
  lost : Bool
deriving DecidableEq, Repr

/-- The whole block. -/
structure State where
  /-- the reset pin is held asserted (R167) -/
  resetHeld : Bool
  /-- the relay feedback inputs as last presented (R10) -/
  contacts : Contacts
  /-- what the data-out pin carried in the latest transaction (R159, R180) -/
  dataOut : List Byte
  station : Station
  tenants : Vector Tenant 16
  outlets : Vector Outlet 48
  osu : Osu
  tly : Tly
  ctb : Ctb
  rlc : Rlc
  cur : Cur
  brm : Brm
  rsq : Rsq
  ect : Ect
  mpt : Mpt
  nq : Nq
  /-- the commands that wait, first in, first out (the model's own) -/
  pending : List Instr
deriving DecidableEq, Repr

/-- Reasons the part stops with a fault. There are none: the spec gives every command an effect, and a relay fault is an
outlet's FAULTED state (R140, R142), not a stop. Safe: no run ends here. -/
inductive Fault where
deriving DecidableEq, Repr

/-- Reasons the model has no answer. -/
inductive Refusal where
  /-- Raised by exec's arm for a command not yet modelled, with its mnemonic; safe, since nothing is claimed of it. No
  arm raises it now. -/
  | notModelled (mnemonic : String)
deriving DecidableEq, Repr

/-- R4's defaults. -/
def Station.default : Station where
  id := 0
  exchange := 1
  settleTallies := 3
  settleSweeps := 2
  staggerGap := 10
  autoBand := true
  manualBand := 1
  attnThreshold := 1
  kindMask := BitVec.allOnes 18

/-- A free slot: R2's defaults. -/
def Tenant.free : Tenant where
  tenantId := none
  contractCode := 0
  burst := 0
  mode := .real
  allowance := 0
  restorePercent := 90
  restoreHold := 5

/-- The reset reading (R30). -/
def Reading.reset : Reading where
  draw := ⟨0, 0, 0⟩
  status := .ok
  stale := false
  misses := 0

/-- A counter at zero (R148). -/
def Counter.zero : Counter where
  count := 0
  residue := 0
  overflow := false

/-- An outlet record after power-on (R5, R8 to R12, R30, R33, R148). -/
def Outlet.reset : Outlet where
  slot := none
  cls := .exempt
  rank := 0
  gains := Vector.replicate 4 32768
  offset := 0
  commanded := .closed
  reason := .none
  remembered := none
  feedback := .closed
  actuator := .enabled
  reading := Reading.reset
  countdown := 0
  direction := none
  energy := Counter.zero
  residualPulse := none

/-- R37's table. -/
def Osu.reset : Osu where
  sweepTimer := none
  owed := false
  stage := .idle
  scan := 0
  band := 1
  sensorFail := false
  warmup := 0

/-- R58's table. -/
def SlotRuntime.reset : SlotRuntime where
  state := .idle
  localDraw := 0
  aggregate := 0
  contract := 0
  allowance := 0
  credit := 0
  uncovered := 0
  lastTally := 0

/-- R38, R39, R58. -/
def Tly.reset : Tly where
  timer := none
  count := 0
  slots := Vector.replicate 16 SlotRuntime.reset

/-- R99's table, power-on column. -/
def Ctb.reset : Ctb where
  dyn := Vector.replicate 128 none
  fixed := Vector.replicate 8 none
  timer := none
  full := false
  notes := []

/-- R81's table. -/
def Rlc.reset : Rlc where
  link := .off
  onLine := none
  noteRun := []
  otherRun := []
  failures := 0
  rxErrors := 0
  retry := none
  tryOn := false
  tryOther := false
  tallies := []

/-- R100's table. -/
def CurSlot.reset : CurSlot where
  settle := none
  hold := 0
  uncurtailable := false
  oldDue := false

/-- R100, R120. -/
def Cur.reset : Cur where
  slots := Vector.replicate 16 CurSlot.reset
  tallies := []
  notes := []

/-- A branch record after power-on (R18, R123). -/
def Branch.reset : Branch where
  limit := 16000
  tripDelay := 3
  restorePercent := 80
  restoreHold := 50
  state := .normal
  current := 0
  overCount := 0
  holdCount := 0
  tripped := none
  unprotectable := false

/-- R18, R123. -/
def Brm.reset : Brm where
  branches := Vector.replicate 6 Branch.reset
  sweeps := 0

/-- R147's table. -/
def Rsq.reset : Rsq where
  urgent := []
  standard := []
  inFlight := none
  stagger := none
  sweeps := 0

/-- R148. -/
def SlotCounters.zero : SlotCounters where
  energy := Counter.zero
  overage := Counter.zero
  lastAttributed := 0

/-- R148. -/
def Ect.reset : Ect where
  slots := Vector.replicate 16 SlotCounters.zero
  tallies := []

/-- R159, R161, R96. -/
def Mpt.reset : Mpt where
  phase := .config
  buffer := none
  ready := false
  cursor := 0

/-- R172. -/
def Nq.reset : Nq where
  queue := []
  lost := false

/-- The block right after power has come up or the reset pin has been released (R167), with nothing waiting. The levels
of the input pins are the model's choice (log entries 7 and 8). -/
def State.reset : State where
  resetHeld := false
  contacts := BitVec.allOnes 48
  dataOut := []
  station := Station.default
  tenants := Vector.replicate 16 Tenant.free
  outlets := Vector.replicate 48 Outlet.reset
  osu := Osu.reset
  tly := Tly.reset
  ctb := Ctb.reset
  rlc := Rlc.reset
  cur := Cur.reset
  brm := Brm.reset
  rsq := Rsq.reset
  ect := Ect.reset
  mpt := Mpt.reset
  nq := Nq.reset
  pending := []

end Sys2Proof.Machine
end

