-- ==== Sys2Proof/Machine/Bytes.lean ====
section
/-! DEFINITION. Byte order (most significant byte first, 00_scope.md), the codes of the enumerations (R179, R181) and the
CRC of the row link (R178). -/

namespace Sys2Proof.Machine

/-- `n` in `w` bytes, most significant first. -/
def natBytes : Nat → Nat → List Byte
  | 0, _ => []
  | w + 1, n => BitVec.ofNat 8 (n / 256 ^ w) :: natBytes w n

/-- The number that bytes, most significant first, stand for. -/
def bytesNat (bytes : List Byte) : Nat :=
  bytes.foldl (fun acc b => acc * 256 + b.toNat) 0

/-- A signed number in two bytes of two's complement (R181). -/
def int16Bytes (i : Int) : List Byte := natBytes 2 (BitVec.ofInt 16 i).toNat

/-- The signed number that a 16-bit two's complement value stands for (R180). -/
def int16 (n : Nat) : Int := (BitVec.ofNat 16 n).toInt

/-- A flag's byte (R181). -/
def flagByte (b : Bool) : Byte := if b then 1 else 0

/-- An optional item: a present byte, then the item's bytes or as many zeros (R181). -/
def optBytes {α : Type} (width : Nat) (f : α → List Byte) : Option α → List Byte
  | some a => 1 :: f a
  | none => 0 :: List.replicate width 0

/-- R179's status codes. -/
def Status.code : Status → Byte
  | .ok => 0
  | .wrongState => 1
  | .badArgument => 2
  | .badConfig => 3
  | .busy => 4
  | .queueFull => 5
  | .unknownCommand => 6

/-- R181: 0 CONFIG, 1 WARMUP, 2 RUN. -/
def Phase.code : Phase → Byte
  | .config => 0
  | .warmup => 1
  | .run => 2

/-- R181: 0 OFF, 1 LISTEN, 2 ACTIVE, 3 DOWN, 4 SILENT. -/
def Link.code : Link → Byte
  | .off => 0
  | .listen => 1
  | .active => 2
  | .down => 3
  | .silent => 4

/-- CLOSED 0, OPEN 1: the order of R8 and R10 (R181). -/
def Position.code : Position → Byte
  | .closed => 0
  | .opened => 1

/-- The direction of the last action, OPEN 0, CLOSE 1: the order of R33 (R181; log entry 15). -/
def directionCode : Position → Byte
  | .opened => 0
  | .closed => 1

/-- NONE, TENANT, BRANCH, MANUAL: the order of R8 (R181). -/
def ShedReason.code : ShedReason → Byte
  | .none => 0
  | .tenant => 1
  | .branch => 2
  | .manual => 3

/-- ENABLED, FAULTED: the order of R11 (R181). -/
def Actuator.code : Actuator → Byte
  | .enabled => 0
  | .faulted => 1

/-- R180: 0 CONTRACTED, 1 BILLED, 2 EXEMPT. -/
def OutletClass.code : OutletClass → Byte
  | .contracted => 0
  | .billed => 1
  | .exempt => 2

/-- R181's tenant states. -/
def TenantState.code : TenantState → Byte
  | .idle => 0
  | .uncontracted => 1
  | .within => 2
  | .burst => 3
  | .overdrawn => 4
  | .recovery => 5

/-- The tenant state a byte codes, if any (R177, R181). -/
def tenantStateOf : Nat → Option TenantState
  | 0 => some .idle
  | 1 => some .uncontracted
  | 2 => some .within
  | 3 => some .burst
  | 4 => some .overdrawn
  | 5 => some .recovery
  | _ => none

/-- OK, CLIPPED: the order of R30 (R181). -/
def ReadingStatus.code : ReadingStatus → Byte
  | .ok => 0
  | .clipped => 1

/-- R181's action kinds. -/
def ActionKind.code : ActionKind → Byte
  | .openRelay => 0
  | .closeRelay => 1
  | .rearm => 2

/-- R181's origins. -/
def Origin.code : Origin → Byte
  | .tenant => 0
  | .branch => 1
  | .manual => 2

/-- urgent, standard: the order of R132 (R181). -/
def Lane.code : Lane → Byte
  | .urgent => 0
  | .standard => 1

/-- R181's completion statuses. -/
def Completion.code : Completion → Byte
  | .done => 0
  | .feedbackTimeout => 1
  | .outletFaulted => 2
  | .superseded => 3

/-- R181's fault causes. -/
def FaultCause.code : FaultCause → Byte
  | .timeout => 0
  | .spontaneous => 1

/-- SHED 0, RESTORE 1 (R177, R181). -/
def NoteDirection.code : NoteDirection → Byte
  | .shed => 0
  | .restore => 1

/-- NORMAL, OVERLOAD, TRIPPING, SHED: the order of R123 (R181). -/
def BranchState.code : BranchState → Byte
  | .normal => 0
  | .overload => 1
  | .tripping => 2
  | .shed => 3

/-- R181's counters. -/
def CounterKind.code : CounterKind → Byte
  | .energy => 0
  | .overage => 1

/-- One bit into the CRC register (R178): shift left, and exclusive-or with 0x1021 when the bit that left the top differs
from the data bit. -/
def crcBit (reg : BitVec 16) (bit : Bool) : BitVec 16 :=
  let shifted := reg <<< 1
  if reg.msb == bit then shifted else shifted ^^^ 0x1021#16

/-- One byte into the CRC register, most significant bit first (R178). -/
def crcByte (reg : BitVec 16) (b : Byte) : BitVec 16 :=
  [7, 6, 5, 4, 3, 2, 1, 0].foldl (fun r i => crcBit r (b.getLsbD i)) reg

/-- The CRC of a frame's bytes from the key on (R178). -/
def crc (bytes : List Byte) : BitVec 16 := bytes.foldl crcByte 0xFFFF#16

/-- The two CRC bytes, high byte first (R178). -/
def crcBytes (bytes : List Byte) : List Byte := natBytes 2 (crc bytes).toNat

end Sys2Proof.Machine
end

