-- ==== Sys2Proof/Machine/Ops.lean ====
section
/-! DEFINITION. The named operations every block shares: access to the records, raising a notice (R172), the transaction
and its reply (R159, R160, R180), the input pins, and the passing of time. -/

namespace Sys2Proof.Machine

/-! ### Records -/

/-- Outlets 0..47 in ascending order. -/
def allOutlets : List OutletIx := List.finRange 48

/-- Slots 0..15 in ascending order. -/
def allSlots : List SlotIx := List.finRange 16

/-- Branches 0..5 in ascending order. -/
def allBranches : List BranchIx := List.finRange 6

/-- Places 0..127 in ascending order. -/
def allPlaces : List PlaceIx := List.finRange 128

/-- Fixed entries 1..8 in ascending order. -/
def allFixed : List FixedIx := List.finRange 8

/-- A vector's entries, each changed alike. -/
def mapVec {α β : Type} {n : Nat} (f : α → β) (v : Vector α n) : Vector β n :=
  ⟨⟨v.toArray.toList.map f⟩, by simp⟩

def State.outlet (s : State) (o : OutletIx) : Outlet := s.outlets[o.val]

def State.setOutlet (s : State) (o : OutletIx) (x : Outlet) : State :=
  { s with outlets := s.outlets.set o.val x }

def State.tenant (s : State) (k : SlotIx) : Tenant := s.tenants[k.val]

def State.slot (s : State) (k : SlotIx) : SlotRuntime := s.tly.slots[k.val]

def State.setSlot (s : State) (k : SlotIx) (x : SlotRuntime) : State :=
  { s with tly := { s.tly with slots := s.tly.slots.set k.val x } }

def State.curSlot (s : State) (k : SlotIx) : CurSlot := s.cur.slots[k.val]

def State.setCurSlot (s : State) (k : SlotIx) (x : CurSlot) : State :=
  { s with cur := { s.cur with slots := s.cur.slots.set k.val x } }

def State.branch (s : State) (b : BranchIx) : Branch := s.brm.branches[b.val]

def State.setBranch (s : State) (b : BranchIx) (x : Branch) : State :=
  { s with brm := { s.brm with branches := s.brm.branches.set b.val x } }

def State.counters (s : State) (k : SlotIx) : SlotCounters := s.ect.slots[k.val]

def State.setCounters (s : State) (k : SlotIx) (x : SlotCounters) : State :=
  { s with ect := { s.ect with slots := s.ect.slots.set k.val x } }

def State.entry (s : State) (i : PlaceIx) : Option DynEntry := s.ctb.dyn[i.val]

def State.setEntry (s : State) (i : PlaceIx) (x : Option DynEntry) : State :=
  { s with ctb := { s.ctb with dyn := s.ctb.dyn.set i.val x } }

def State.fixedEntry (s : State) (i : FixedIx) : Option FixedEntry := s.ctb.fixed[i.val]

/-- A slot is in use when a tenant ID has been loaded into it (R1). -/
def Tenant.inUse (t : Tenant) : Bool := t.tenantId.isSome

/-- The slot is in use (R1). -/
def State.inUse (s : State) (k : SlotIx) : Bool := (s.tenant k).inUse

/-- The slot is in use and its own contract code is not 0 (R3). -/
def State.contracted (s : State) (k : SlotIx) : Bool := s.inUse k && (s.tenant k).contractCode != 0

/-- The in-use slots in ascending order. -/
def State.usedSlots (s : State) : List SlotIx := allSlots.filter s.inUse

/-- The directory's answer (R1): the in-use slot that holds a tenant ID, or "not here". -/
def State.slotOf (s : State) (tenantId : Nat) : Option SlotIx :=
  allSlots.find? fun k => (s.tenant k).tenantId == some tenantId

/-- The branch an outlet is wired to: floor(n / 8) (R5). -/
def branchOf (o : OutletIx) : BranchIx := ⟨o.val / 8, by omega⟩

/-- The eight outlets of a branch in ascending order (R5). -/
def outletsOf (b : BranchIx) : List OutletIx := allOutlets.filter fun o => branchOf o == b

/-- The first of a list under a strict order: a later element replaces the choice only when it comes before it, so
elements equal under the order leave the earlier one. -/
def pick {α : Type} (before : α → α → Bool) : List α → Option α
  | [] => none
  | x :: rest =>
    some (rest.foldl (fun best y => if before y best then y else best) x)

/-! ### Notices -/

/-- R173's numbers. -/
def NoticeBody.number : NoticeBody → Nat
  | .tenantState _ _ _ => 1
  | .shedElected _ _ _ _ => 2
  | .restoreElected _ _ _ _ => 3
  | .uncurtailable _ => 4
  | .contractMismatch _ _ _ => 5
  | .peerExpired _ _ => 6
  | .tableFull _ _ => 7
  | .outletStale _ => 8
  | .outletFresh _ => 9
  | .actionDone _ _ _ _ => 10
  | .outletFault _ _ => 11
  | .branchTrip _ _ => 12
  | .branchUnprotectable _ => 13
  | .duplicateStation => 14
  | .linkDown => 15
  | .linkUp => 16
  | .outletWrap _ => 17
  | .slotWrap _ _ => 17
  | .tempSensorFail => 18

/-- Whether the kind mask enables a notice: bit k − 1 for kind k (R180). -/
def Station.enables (st : Station) (b : NoticeBody) : Bool := st.kindMask.getLsbD (b.number - 1)

/-- The queue takes a notice (R172): a disabled kind is not queued; with 63 held it is discarded and the lost flag set;
otherwise it joins the tail. -/
def Nq.take (q : Nq) (enabled : Bool) (n : Notice) : Nq :=
  if !enabled then q
  else if q.queue.length < Config.noticeCapacity then { q with queue := q.queue ++ [n] }
  else { q with lost := true }

/-- Raise a notice with a given stamp (R172). -/
def State.raiseAt (s : State) (stamp : Nat) (b : NoticeBody) : State :=
  { s with nq := s.nq.take (s.station.enables b) ⟨stamp, b⟩ }

/-- Raise a notice with the tally count of the moment as its stamp (R39, R172). -/
def State.raise (s : State) (b : NoticeBody) : State := s.raiseAt s.tly.count b

/-! ### The part and its pins -/

/-- While the reset pin is held the part takes nothing (R167; log entry 6). No command ends in a fault or a refusal. -/
def unlessHeld (s : State) (f : State → State) : Host.Outcome State Fault Refusal :=
  .next (if s.resetHeld then s else f s)

/-- The feedback contacts stand at the levels presented. -/
def State.withPins (s : State) (pins : Contacts) : State := { s with contacts := pins }

/-- The relay position an outlet's feedback contact shows (R10). -/
def State.sensed (s : State) (o : OutletIx) : Position :=
  if s.contacts.getLsbD o.val then .closed else .opened

/-! ### Transactions and replies -/

/-- The reply's bytes from its command code on (R179). -/
def Reply.bytes (r : Reply) : List Byte :=
  r.code :: r.status.code :: BitVec.ofNat 8 r.data.length :: r.data

/-- The returned frame while the reply-ready flag is set: the flag, then the reply (R159, R179). -/
def Mpt.frame (m : Mpt) : List Byte :=
  match m.ready, m.buffer with
  | true, some r => 1 :: r.bytes
  | _, _ => []

/-- What the part clocks out beside `n` bytes clocked in: the returned frame, then zeros (R180). -/
def clockedOut (n : Nat) (frame : List Byte) : List Byte :=
  (frame ++ List.replicate n 0).take n

/-- The end of a transaction of `n` bytes (R159): the flag is cleared when the whole reply has been clocked out. The
command record of the same transaction is taken after this. -/
def State.endTransaction (s : State) (n : Nat) : State :=
  { s with
    dataOut := clockedOut n s.mpt.frame
    mpt := { s.mpt with ready := s.mpt.ready && decide (n < s.mpt.frame.length) } }

/-- A reply replaces the buffer's content and sets the flag (R159). -/
def State.reply (s : State) (code : Byte) (status : Status) (data : List Byte) : State :=
  { s with mpt := { s.mpt with buffer := some ⟨code, status, data⟩, ready := true } }

/-- A refusal carries no data (R180) and changes nothing but the reply buffer (R160). -/
def State.refuse (s : State) (code : Byte) (status : Status) : State := s.reply code status []


/-- A port command with its transaction: the transaction's end, then the length check of R160 (check 2), then `work`. -/
def portCommand (code : Byte) (len : Nat) (r : Record) (s : State) (work : State → State) :
    Host.Outcome State Fault Refusal :=
  unlessHeld s fun s =>
    let s := s.endTransaction (2 + r.params.length + r.trailing.length)
    if r.params.length = len then work s else s.refuse code .badArgument

/-! ### Time -/

/-- One tick less, but never below one: the running out is the expiry command's (log entry 1). -/
def tickDown (n : Nat) : Nat := if n ≤ 1 then n else n - 1

/-- A running timer loses a tick. -/
def Timer.tick (t : Timer) : Timer := t.map tickDown

/-- A running timer whose running out falls in this moment: it shows its last tick (R95, R116; log entry 32). -/
def Timer.due : Timer → Bool
  | some n => decide (n ≤ 1)
  | none => false

/-- Milliseconds left of a running timer, rounded up (R97, R100; log entry 24). -/
def msLeft (ticks : Nat) : Nat := (ticks + (Config.ticksPerMs - 1)) / Config.ticksPerMs

/-- A sweep stage loses a tick. -/
def SweepStage.tick : SweepStage → SweepStage
  | .idle => .idle
  | .readingSensor n => .readingSensor (tickDown n)
  | .requesting n => .requesting (tickDown n)

/-- A pending adjustment loses a tick, and the moment in which an old one was due is over. -/
def Adjustment.tick (a : Adjustment) : Adjustment := { a with left := tickDown a.left, oldDue := false }

/-- An entry's pending adjustment loses a tick. -/
def DynEntry.tick (e : DynEntry) : DynEntry := { e with adjustment := e.adjustment.map Adjustment.tick }

/-- A settle timer loses a tick, and the moment in which its former run was due is over. -/
def CurSlot.tick (c : CurSlot) : CurSlot := { c with settle := Timer.tick c.settle, oldDue := false }

/-- A pulse left running loses a tick. -/
def CoilPulse.tick (p : CoilPulse) : CoilPulse := { p with left := tickDown p.left }

/-- An outlet's left-over pulse loses a tick. -/
def Outlet.tick (x : Outlet) : Outlet := { x with residualPulse := x.residualPulse.map CoilPulse.tick }

/-- An action in flight loses a tick. -/
def InFlight.tick (f : InFlight) : InFlight :=
  { f with pulse := Timer.tick f.pulse, window := tickDown f.window }

/-- 4 µs pass: every running timer counts down, the marks of the moment before are cleared (log entry 32), and nothing else
changes (log entry 1). -/
def State.tick (s : State) : State :=
  { s with
    outlets := mapVec Outlet.tick s.outlets
    osu := { s.osu with sweepTimer := Timer.tick s.osu.sweepTimer, stage := s.osu.stage.tick }
    tly := { s.tly with timer := Timer.tick s.tly.timer }
    ctb := { s.ctb with
      timer := Timer.tick s.ctb.timer
      dyn := mapVec (fun e => e.map DynEntry.tick) s.ctb.dyn }
    rlc := { s.rlc with retry := Timer.tick s.rlc.retry }
    cur := { s.cur with slots := mapVec CurSlot.tick s.cur.slots }
    rsq := { s.rsq with
      stagger := Timer.tick s.rsq.stagger
      inFlight := s.rsq.inFlight.map InFlight.tick } }

end Sys2Proof.Machine
end

