-- ==== Sys2Proof/Machine/Draw.lean ====
section
/-! DEFINITION. An outlet's pending action (R12, R132), its counted draw by the four-case rule (R41 to R43), the local
contribution (R44) and the energy figure (R150). -/

namespace Sys2Proof.Machine

/-- The lane follows from kind and origin (R132). -/
def Action.lane (a : Action) : Lane :=
  if a.origin = .branch ∧ a.kind = .openRelay then .urgent else .standard

/-- A pending action as its outlet's record refers to it (R12, R132): the action, and whether it is in flight. -/
structure Pending where
  action : Action
  inFlight : Bool
deriving DecidableEq, Repr

/-- The queued action for an outlet, if any (R12). -/
def Rsq.queuedFor (q : Rsq) (o : OutletIx) : Option Action :=
  (q.urgent ++ q.standard).find? fun a => a.outlet == o

/-- The action in flight for an outlet, if any (R12). -/
def Rsq.inFlightFor (q : Rsq) (o : OutletIx) : Option Action :=
  match q.inFlight with
  | some f => if f.action.outlet = o then some f.action else none
  | none => none

/-- An outlet's pending action (R12; log entry 10). -/
def State.pendingFor (s : State) (o : OutletIx) : Option Pending :=
  match s.rsq.inFlightFor o with
  | some a => some ⟨a, true⟩
  | none => (s.rsq.queuedFor o).map fun a => ⟨a, false⟩

/-- An outlet has a pending action. -/
def State.hasPending (s : State) (o : OutletIx) : Bool := (s.pendingFor o).isSome

/-- An outlet has a pending action of origin BRANCH (R123, R126). -/
def State.branchPending (s : State) (o : OutletIx) : Bool :=
  match s.pendingFor o with
  | some p => p.action.origin == .branch
  | none => false

/-- No draw. -/
def Draw.zero : Draw := ⟨0, 0, 0⟩

/-- What an outlet's record counts as: R41's four cases, with case 3 and case 4 told apart by direction and feedback. -/
inductive Standing where
  /-- case 1 -/
  | opening
  /-- case 2 -/
  | closing
  /-- case 3, direction OPEN -/
  | settlingOpen
  /-- case 3, direction CLOSE -/
  | settlingClosed
  /-- case 4, feedback CLOSED -/
  | sensedClosed
  /-- case 4, feedback OPEN -/
  | sensedOpen
deriving DecidableEq, Repr

/-- Case 4 by the feedback state (R41). -/
def Outlet.sensedStanding (x : Outlet) : Standing :=
  match x.feedback with
  | .closed => .sensedClosed
  | .opened => .sensedOpen

/-- Cases 3 and 4 (R41). A countdown above 0 without a direction does not come about (R33); it is taken as case 4 (log
entry 17). -/
def Outlet.idleStanding (x : Outlet) : Standing :=
  if x.countdown = 0 then x.sensedStanding
  else
    match x.direction with
    | some .opened => .settlingOpen
    | some .closed => .settlingClosed
    | none => x.sensedStanding

/-- The first of R41's cases that applies. A REARM is neither an OPEN nor a CLOSE. -/
def State.standing (s : State) (o : OutletIx) : Standing :=
  match s.pendingFor o with
  | some p =>
    match p.action.kind with
    | .openRelay => .opening
    | .closeRelay => .closing
    | .rearm => (s.outlet o).idleStanding
  | none => (s.outlet o).idleStanding

/-- The remembered draw, or the reading where it is absent (R41). -/
def Outlet.rememberedDraw (x : Outlet) : Draw := x.remembered.getD x.reading.draw

/-- An outlet's counted draw (R41). -/
def State.counted (s : State) (o : OutletIx) : Draw :=
  match s.standing o with
  | .opening => Draw.zero
  | .closing => (s.outlet o).rememberedDraw
  | .settlingOpen => Draw.zero
  | .settlingClosed => (s.outlet o).rememberedDraw
  | .sensedClosed => (s.outlet o).reading.draw
  | .sensedOpen => Draw.zero

/-- Whether an outlet counts as energised (R43). -/
def State.energised (s : State) (o : OutletIx) : Bool :=
  match s.standing o with
  | .opening => false
  | .closing => true
  | .settlingOpen => false
  | .settlingClosed => true
  | .sensedClosed => true
  | .sensedOpen => false

/-- The quantity a slot counts: P in REAL mode, S in APPARENT mode (R43). -/
def Draw.byMode (d : Draw) : CountMode → Nat
  | .real => d.p
  | .apparent => d.s

/-- An outlet's counted value for a slot, without the allowance (R43, R102). -/
def State.countedValue (s : State) (k : SlotIx) (o : OutletIx) : Nat :=
  (s.counted o).byMode (s.tenant k).mode

/-- An outlet's counted value with the slot's allowance where energised (R43). -/
def State.contributionOf (s : State) (k : SlotIx) (o : OutletIx) : Nat :=
  s.countedValue k o + if s.energised o then (s.tenant k).allowance else 0

/-- An outlet is a CONTRACTED outlet of the slot (R6). -/
def Outlet.countsFor (x : Outlet) (k : SlotIx) : Bool := x.slot == some k && x.cls == .contracted

/-- A slot's local contribution L (R44), from the outlet records as they stand (R45). -/
def State.localContribution (s : State) (k : SlotIx) : Nat :=
  ((allOutlets.filter fun o => (s.outlet o).countsFor k).map (s.contributionOf k)).sum

/-- An outlet's energy figure for one second (R150). -/
def Outlet.energyFigure (x : Outlet) : Nat :=
  match x.feedback with
  | .closed => x.reading.draw.p
  | .opened => 0

/-- An outlet's energy counts toward the slot (R151). -/
def Outlet.billedTo (x : Outlet) (k : SlotIx) : Bool :=
  x.slot == some k && (x.cls == .contracted || x.cls == .billed)

/-- The energy figure of a slot for one second (R151). -/
def State.slotEnergyFigure (s : State) (k : SlotIx) : Nat :=
  ((allOutlets.filter fun o => (s.outlet o).billedTo k).map fun o => (s.outlet o).energyFigure).sum

end Sys2Proof.Machine
end

