-- ==== Sys2Proof/Machine/Reconciliation.lean ====
section
/-! DEFINITION. The Tally Unit (03_reconciliation.md): the aggregate (R46, R47), the effective contract (R49), the credit
(R50 to R53), the tenant state (R54 to R57), the tally and its completion (R38 to R40, R59), and the entry into RUN
(R51, R56, R165). -/

namespace Sys2Proof.Machine

/-! ### What the tally reads of the Contribution Table -/

/-- A dynamic entry is stale at age 2 (R82). -/
def DynEntry.stale (e : DynEntry) : Bool := decide (2 ≤ e.age)

/-- The dynamic entries of a slot, in ascending order of place. -/
def State.entriesOf (s : State) (k : SlotIx) : List DynEntry :=
  (allPlaces.filterMap s.entry).filter fun e => e.slot == k

/-- The dynamic entries of a slot that are not stale (R82). -/
def State.freshEntriesOf (s : State) (k : SlotIx) : List DynEntry :=
  (s.entriesOf k).filter fun e => !e.stale

/-- The loaded fixed entries of a slot (R84). -/
def State.fixedOf (s : State) (k : SlotIx) : List FixedEntry :=
  (allFixed.filterMap s.fixedEntry).filter fun e => e.slot == k

/-- A dynamic entry's adjusted contribution (R47). -/
def DynEntry.adjusted (e : DynEntry) : Nat :=
  match e.adjustment with
  | none => e.contribution
  | some a =>
    match a.direction with
    | .shed => e.contribution - a.draw
    | .restore => e.contribution + a.draw

/-- The aggregate A for a local contribution L (R46). -/
def State.aggregateOf (s : State) (k : SlotIx) (l : Nat) : Nat :=
  l + ((s.fixedOf k).map (·.contribution)).sum + ((s.entriesOf k).map (·.adjusted)).sum

/-- The least code among the slot's own and the non-stale entries' codes other than 0 (R49). -/
def State.leastCode (s : State) (k : SlotIx) : Nat :=
  (((s.freshEntriesOf k).map (·.code)).filter fun c => c != 0).foldl min (s.tenant k).contractCode

/-- The effective contract C of a contracted slot, in dW (R49). -/
def State.effectiveContract (s : State) (k : SlotIx) : Nat := 100 * s.leastCode k

/-- A tenant-shed outlet of the slot is known (R55). -/
def State.shedKnown (s : State) (k : SlotIx) : Bool :=
  allOutlets.any (fun o => (s.outlet o).slot == some k && (s.outlet o).reason == .tenant) ||
    (s.freshEntriesOf k).any fun e => e.restore.isSome

/-! ### Credit and state -/

/-- K_before (R52 step 1): the stored credit, but no more than B. -/
def creditHeld (credit b : Nat) : Nat := min credit b

/-- The uncovered excess U (R52 step 2). -/
def uncoveredExcess (a c held : Nat) : Nat := if c < a then a - c - held else 0

/-- The new credit K_after (R52 step 3): K_before + C − A, taken as 0 if negative and as B if above B. -/
def creditAfter (a c held b : Nat) : Nat := min (held + c - a) b

/-- The tenant state of a contracted slot (R54). -/
def contractedState (a c credit : Nat) (known : Bool) : TenantState :=
  if a ≤ c then (if known then .recovery else .within)
  else if 0 < credit then .burst else .overdrawn

/-- The runtime record a tally stores for an in-use slot (R40, R44 to R54); an own contract code of 0 stops after the
aggregate (R48). -/
def State.tallyRecord (s : State) (k : SlotIx) : SlotRuntime :=
  let l := s.localContribution k
  let a := s.aggregateOf k l
  if (s.tenant k).contractCode = 0 then
    { state := .uncontracted
      localDraw := l
      aggregate := a
      contract := 0
      allowance := 0
      credit := 0
      uncovered := 0
      lastTally := s.tly.count }
  else
    let c := s.effectiveContract k
    let b := c * (s.tenant k).burst
    let held := creditHeld (s.slot k).credit b
    let after := creditAfter a c held b
    { state := contractedState a c after (s.shedKnown k)
      localDraw := l
      aggregate := a
      contract := c
      allowance := b
      credit := after
      uncovered := uncoveredExcess a c held
      lastTally := s.tly.count }

/-- A slot's runtime record is stored, and a change of its tenant state raises TENANT_STATE (R57). -/
def State.storeSlot (s : State) (k : SlotIx) (x : SlotRuntime) : State :=
  let old := (s.slot k).state
  let s' := s.setSlot k x
  if old = x.state then s' else s'.raise (.tenantState k old x.state)

/-- The tally of one slot; a free slot is not computed (R40). -/
def State.tallySlot (s : State) (k : SlotIx) : State :=
  if s.inUse k then s.storeSlot k (s.tallyRecord k) else s

/-- The tally count rises by 1 and wraps to 0 (R39). -/
def nextTally (n : Nat) : Nat := (n + 1) % Config.word32

/-- The completed tally is handed to the Energy Counters, the Curtailment Unit and the Row Link Controller (R59). -/
def State.handTally (s : State) : State :=
  { s with
    ect := { s.ect with tallies := s.ect.tallies ++ [s.tly.count] }
    cur := { s.cur with tallies := s.cur.tallies ++ [s.tly.count] }
    rlc := { s.rlc with tallies := s.rlc.tallies ++ [s.tly.count] } }

/-- TALLY_TIMER_EXPIRY (R38 to R40, R59): the timer starts again, the count rises, the in-use slots are computed in slot
order, and the completion is handed on. -/
def execTallyTimerExpiry (s : State) : Host.Outcome State Fault Refusal :=
  unlessHeld s fun s =>
    match s.tly.timer with
    | none => s
    | some _ =>
      let s := { s with tly := { s.tly with timer := some Config.tallyTicks, count := nextTally s.tly.count } }
      (allSlots.foldl State.tallySlot s).handTally

/-! ### The entry into RUN -/

/-- What the entry into RUN stores for an in-use slot: a full credit for a contracted one (R51), UNCONTRACTED for one whose
own code is 0 (R56). -/
def State.runRecord (s : State) (k : SlotIx) : SlotRuntime :=
  if (s.tenant k).contractCode = 0 then { s.slot k with state := .uncontracted }
  else
    let c := s.effectiveContract k
    let b := c * (s.tenant k).burst
    { s.slot k with contract := c, allowance := b, credit := b }

/-- The entry into RUN for one slot (R51, R56, R57). -/
def State.enterSlot (s : State) (k : SlotIx) : State :=
  if s.inUse k then s.storeSlot k (s.runRecord k) else s

/-- ENTER_RUN (R165): taken when the eighth warm-up sweep has been reported, that is in WARMUP with the count at 8
(R35). -/
def execEnterRun (s : State) : Host.Outcome State Fault Refusal :=
  unlessHeld s fun s =>
    if s.mpt.phase = .warmup ∧ s.osu.warmup = Config.warmupSweeps then
      let s := { s with mpt := { s.mpt with phase := .run } }
      let s := allSlots.foldl State.enterSlot s
      { s with
        tly := { s.tly with timer := some Config.tallyTicks }
        rlc := { s.rlc with link := if s.rlc.link = .listen then .active else s.rlc.link } }
    else s

end Sys2Proof.Machine
end

