-- ==== Sys2Proof/Machine/Candidates.lean ====
section
/-! DEFINITION. The candidates of the elections (R102 to R105, R110, R111). -/

namespace Sys2Proof.Machine

/-- An outlet of this station as a candidate: its rank, and the figure that breaks ties and is advertised. -/
structure OwnCandidate where
  outlet : OutletIx
  rank : Nat
  draw : Nat
deriving DecidableEq, Repr

/-- An outlet may be shed for the slot (R102). -/
def State.mayShed (s : State) (k : SlotIx) (o : OutletIx) : Bool :=
  let x := s.outlet o
  x.slot == some k && x.cls == .contracted && decide (x.rank.val ≤ 14) && x.commanded == .closed &&
    x.actuator == .enabled && !s.hasPending o

/-- R102's order: lowest rank, then highest counted value; equal in both, the lower index stays. -/
def shedBefore (a b : OwnCandidate) : Bool :=
  decide (a.rank < b.rank) || (a.rank == b.rank && decide (b.draw < a.draw))

/-- A slot's own shed candidate with its rank and draw (R102, R103). -/
def State.ownShed (s : State) (k : SlotIx) : Option OwnCandidate :=
  pick shedBefore <| (allOutlets.filter (s.mayShed k)).map fun o =>
    ⟨o, (s.outlet o).rank.val, s.countedValue k o⟩

/-- An outlet may be restored for the slot (R110). -/
def State.mayRestore (s : State) (k : SlotIx) (o : OutletIx) : Bool :=
  let x := s.outlet o
  x.slot == some k && x.reason == .tenant && x.actuator == .enabled && !s.hasPending o

/-- R110's order: highest rank, then smallest remembered value; equal in both, the lower index stays. -/
def restoreBefore (a b : OwnCandidate) : Bool :=
  decide (b.rank < a.rank) || (a.rank == b.rank && decide (a.draw < b.draw))

/-- An outlet's remembered draw; a shed outlet always has one (R9), and an absent one counts 0 (log entry 17). -/
def Outlet.storedDraw (x : Outlet) : Draw := x.remembered.getD ⟨0, 0, 0⟩

/-- A slot's own restore candidate with its rank and draw, the remembered value (R110). -/
def State.ownRestore (s : State) (k : SlotIx) : Option OwnCandidate :=
  pick restoreBefore <| (allOutlets.filter (s.mayRestore k)).map fun o =>
    ⟨o, (s.outlet o).rank.val, (s.outlet o).storedDraw.byMode (s.tenant k).mode⟩

/-- A candidate in the row's view: its rank, the station that holds it, its draw, and the outlet when it is this
station's own. -/
structure RowCandidate where
  rank : Nat
  station : Nat
  draw : Nat
  own : Option OutletIx
deriving DecidableEq, Repr

/-- The entries whose candidates are in view: in use, not stale, without a pending adjustment (R104, R111). -/
def State.candidateEntries (s : State) (k : SlotIx) : List DynEntry :=
  (s.freshEntriesOf k).filter fun e => e.adjustment.isNone

/-- The peer shed candidates (R104). -/
def State.peerShed (s : State) (k : SlotIx) : List RowCandidate :=
  (s.candidateEntries k).filterMap fun e => e.shed.map fun c => ⟨c.rank, e.station, c.draw, none⟩

/-- The peer restore candidates (R111). -/
def State.peerRestore (s : State) (k : SlotIx) : List RowCandidate :=
  (s.candidateEntries k).filterMap fun e => e.restore.map fun c => ⟨c.rank, e.station, c.draw, none⟩

/-- This station's own candidate in the row's view (R105, R111). -/
def State.ownInRow (s : State) (c : OwnCandidate) : RowCandidate := ⟨c.rank, s.station.id, c.draw, some c.outlet⟩

/-- The shed order of the row (R105): the lower (rank, station ID) first. -/
def rowShedBefore (a b : RowCandidate) : Bool :=
  decide (a.rank < b.rank) || (a.rank == b.rank && decide (a.station < b.station))

/-- The restore order of the row (R111): the higher rank first, then the lower station ID. -/
def rowRestoreBefore (a b : RowCandidate) : Bool :=
  decide (b.rank < a.rank) || (a.rank == b.rank && decide (a.station < b.station))

/-- The first shed candidate in the row's order (R105, R106). -/
def State.firstShed (s : State) (k : SlotIx) : Option RowCandidate :=
  pick rowShedBefore (((s.ownShed k).map s.ownInRow).toList ++ s.peerShed k)

/-- The slot's best restore candidate (R111). -/
def State.bestRestore (s : State) (k : SlotIx) : Option RowCandidate :=
  pick rowRestoreBefore (((s.ownRestore k).map s.ownInRow).toList ++ s.peerRestore k)

/-- A candidate as a SUMMARY carries it (R103, R110). -/
def OwnCandidate.advertised (c : OwnCandidate) : Candidate := ⟨c.rank, c.draw⟩

end Sys2Proof.Machine
end

