-- ==== Sys2Proof/Machine/Relay.lean ====
section
/-! DEFINITION. The Relay Sequencer (08_relay_actuation.md): requests (R133, R134), the choice of the next action (R136,
R137), the retirements (R138 to R143), adoption and re-arm (R17, R145, R146), the mismatch check (R142), and the
commands of its own events. -/

namespace Sys2Proof.Machine

/-! ### What happens to an outlet record -/

/-- The record of an outlet opened by an election, a trip or a command (R13 to R15). -/
def Outlet.opened (x : Outlet) (reason : ShedReason) (draw : Draw) : Outlet :=
  { x with commanded := .opened, reason := reason, remembered := some draw }

/-- The record of an outlet closed by a restore or a command (R16): the remembered draw stays as the closing draw. -/
def Outlet.restored (x : Outlet) : Outlet := { x with commanded := .closed, reason := .none }

/-- Clear a closing draw: a remembered draw while the reason is NONE (R9). -/
def Outlet.clearClosing (x : Outlet) : Outlet :=
  if x.reason = .none then { x with remembered := none } else x

/-- R17's table: the outlet's standing set from the relay's sensed position. -/
def Outlet.adopt (x : Outlet) : Position → Outlet
  | .closed =>
    { x with feedback := .closed, commanded := .closed, reason := .none, remembered := none, actuator := .enabled }
  | .opened =>
    { x with
      feedback := .opened, commanded := .opened, reason := .manual, remembered := some x.rememberedDraw,
      actuator := .enabled }

/-- The settle countdown and direction a completion sets (R33). -/
def Outlet.settle (x : Outlet) (sweeps : Nat) (p : Position) : Outlet :=
  { x with countdown := sweeps, direction := some p }

/-! ### Lanes and requests -/

/-- A lane's actions, head first (R132). -/
def Rsq.lane (q : Rsq) : Lane → List Action
  | .urgent => q.urgent
  | .standard => q.standard

/-- Capacities (R132). -/
def Lane.capacity : Lane → Nat
  | .urgent => Config.urgentCapacity
  | .standard => Config.standardCapacity

/-- An action joins the tail of its lane (R132). -/
def Rsq.append (q : Rsq) (a : Action) : Rsq :=
  match a.lane with
  | .urgent => { q with urgent := q.urgent ++ [a] }
  | .standard => { q with standard := q.standard ++ [a] }

/-- The action queued for an outlet leaves its lane (R134, R144). -/
def Rsq.remove (q : Rsq) (o : OutletIx) : Rsq :=
  { q with
    urgent := q.urgent.filter fun a => a.outlet != o
    standard := q.standard.filter fun a => a.outlet != o }

/-- Outcomes of a request (R133). -/
inductive RequestOutcome where
  | accepted | merged | busy | queueFull
deriving DecidableEq, Repr

/-- The lane has room, not counting an action that the request retires from it (R133). -/
def Rsq.hasRoom (q : Rsq) (l : Lane) (retired : Option Action) : Bool :=
  match retired with
  | some b => decide ((q.lane l).length < l.capacity + if b.lane = l then 1 else 0)
  | none => decide ((q.lane l).length < l.capacity)

/-- R133's table for a request of kind OPEN or CLOSE. -/
def State.requestOutcome (s : State) (a : Action) : RequestOutcome :=
  match s.pendingFor a.outlet with
  | none => if s.rsq.hasRoom a.lane none then .accepted else .queueFull
  | some p =>
    if p.action.kind = .rearm then .busy
    else if p.action.kind = a.kind then .merged
    else if p.inFlight then .busy
    else if s.rsq.hasRoom a.lane (some p.action) then .accepted else .queueFull

/-- ACTION_DONE for a retired action (R141), with its tally stamp (R172). -/
def State.raiseDone (stamp : Nat) (s : State) (a : Action) (c : Completion) : State :=
  s.raiseAt stamp (.actionDone a.outlet a.kind a.origin c)

/-- The queued action that a new one supersedes, if any, is retired SUPERSEDED (R134). Its outlet's remembered draw is
left to the requester. -/
def State.supersede (s : State) (o : OutletIx) : State :=
  match s.rsq.queuedFor o with
  | some b => State.raiseDone s.tly.count { s with rsq := s.rsq.remove o } b .superseded
  | none => s

/-- An accepted request: supersede, then append (R133, R134). The choice that an append calls for (R136) is made by the
requester's step once the outlet is marked (log entry 16). -/
def State.enqueue (s : State) (a : Action) : State :=
  let s := s.supersede a.outlet
  { s with rsq := s.rsq.append a }

/-! ### Retirements -/

/-- The position an OPEN or CLOSE drives toward (R138). A REARM has none; its value is never asked for. -/
def ActionKind.target : ActionKind → Position
  | .openRelay => .opened
  | .closeRelay => .closed
  | .rearm => .closed

/-- The stagger timer is started (again) with the gap; with a gap of 0 it expires at once (R137). -/
def State.startStagger (s : State) : State :=
  { s with rsq := { s.rsq with
      stagger := if s.station.staggerGap = 0 then none
        else some (s.station.staggerGap * Config.staggerUnitTicks) } }

/-- The in-flight place is emptied. -/
def State.clearInFlight (s : State) : State := { s with rsq := { s.rsq with inFlight := none } }

/-- The record of an outlet whose OPEN or CLOSE is retired DONE (R139): steps 1 and 2, and the closing draw cleared in the
same step when settle sweeps is 0 (R9). -/
def Outlet.actionDone (x : Outlet) (kind : ActionKind) (sweeps : Nat) : Outlet :=
  let y := { x with feedback := kind.target }.settle sweeps kind.target
  if kind = .closeRelay ∧ sweeps = 0 then y.clearClosing else y

/-- An OPEN or CLOSE in flight is retired DONE (R139). -/
def State.retireDone (s : State) (a : Action) : State :=
  let s := s.clearInFlight
  let s := s.setOutlet a.outlet ((s.outlet a.outlet).actionDone a.kind s.station.settleSweeps)
  let s := if a.kind = .closeRelay then s.startStagger else s
  State.raiseDone s.tly.count s a .done

/-- The record of an outlet whose OPEN or CLOSE is retired FEEDBACK_TIMEOUT with the position sensed (R140). -/
def Outlet.actionTimedOut (x : Outlet) (kind : ActionKind) (p : Position) : Outlet :=
  let y := { x with feedback := p, actuator := .faulted }
  if kind = .closeRelay then y.clearClosing else y

/-- An OPEN or CLOSE in flight is retired FEEDBACK_TIMEOUT (R140). -/
def State.retireTimeout (s : State) (a : Action) : State :=
  let s := s.clearInFlight
  let s := s.setOutlet a.outlet ((s.outlet a.outlet).actionTimedOut a.kind (s.sensed a.outlet))
  let s := if a.kind = .closeRelay then s.startStagger else s
  State.raiseDone s.tly.count (s.raise (.outletFault a.outlet .timeout)) a .feedbackTimeout

/-- An OPEN or CLOSE taken from its lane for a FAULTED outlet is retired OUTLET_FAULTED (R143), its ACTION_DONE with this
stamp. -/
def State.retireFaulted (stamp : Nat) (s : State) (a : Action) : State :=
  let s := if a.kind = .closeRelay then s.setOutlet a.outlet (s.outlet a.outlet).clearClosing else s
  s.raiseDone stamp a .outletFaulted

/-- A REARM starts and is retired DONE in the same step (R145), its ACTION_DONE with this stamp. -/
def State.completeRearm (stamp : Nat) (s : State) (a : Action) : State :=
  let p := s.sensed a.outlet
  let s := s.setOutlet a.outlet (((s.outlet a.outlet).adopt p).settle s.station.settleSweeps p)
  s.raiseDone stamp a .done

/-! ### The choice -/

/-- An OPEN or CLOSE starts: the coil pulse and the feedback window begin, the contact watched from the start (R138). -/
def State.startAction (s : State) (a : Action) : State :=
  { s with rsq := { s.rsq with
      inFlight := some {
        action := a
        pulse := some Config.pulseTicks
        window := Config.windowTicks
        targetSeen := s.sensed a.outlet == a.kind.target } } }

/-- A standard head that waits: a CLOSE for an ENABLED outlet while the stagger timer is running (R136 step 2). -/
def State.waits (s : State) (a : Action) : Bool :=
  a.kind == .closeRelay && (s.outlet a.outlet).actuator == .enabled && s.rsq.stagger.isSome

/-- Steps 1 and 2 of the choice (R136): the action taken, and the lanes without it. -/
def State.takeNext (s : State) : Option (Action × Rsq) :=
  match s.rsq.urgent, s.rsq.standard with
  | a :: rest, _ => some (a, { s.rsq with urgent := rest })
  | [], a :: rest => if s.waits a then none else some (a, { s.rsq with standard := rest })
  | [], [] => none

/-- The choice (R136), with the stamp of the notices it raises and a bound on how many actions it takes: each is retired at
once (step 3, or a REARM by R145, after which the choice is made again) or starts. -/
def chooseUpTo (stamp : Nat) : Nat → State → State
  | 0, s => s
  | n + 1, s =>
    if s.rsq.inFlight.isSome then s
    else
      match s.takeNext with
      | none => s
      | some (a, q) =>
        let s := { s with rsq := q }
        if a.kind = .rearm then chooseUpTo stamp n (s.completeRearm stamp a)
        else if (s.outlet a.outlet).actuator = .faulted then chooseUpTo stamp n (s.retireFaulted stamp a)
        else s.startAction a

/-- The choice of the next action (R136). Each turn takes one action, so the number queued bounds the turns. The stamp is
that of the moment: within the work of a tally completion, the tally count that the completion carries (R141, R172; log entry
28). -/
def State.chooseAt (s : State) (stamp : Nat) : State :=
  chooseUpTo stamp (s.rsq.urgent.length + s.rsq.standard.length) s

/-- The choice outside the work of a tally completion: its notices carry the tally count (R39, R172). -/
def State.choose (s : State) : State := s.chooseAt s.tly.count

/-! ### The sequencer's own events -/

/-- A contact input at a position. -/
def setContact (c : Contacts) (o : OutletIx) : Position → Contacts
  | .closed => c ||| (1#48 <<< o.val)
  | .opened => c &&& ~~~(1#48 <<< o.val)

/-- STAGGER_TIMER_EXPIRY (R137): the timer stops, and a choice is made. -/
def execStaggerTimerExpiry (pins : Contacts) (s : State) : Host.Outcome State Fault Refusal :=
  unlessHeld s fun s =>
    let s := s.withPins pins
    match s.rsq.stagger with
    | some _ => { s with rsq := { s.rsq with stagger := none } }.choose
    | none => s

/-- FEEDBACK_TARGET_SENSED (R138, R139): the contact of the outlet in flight shows the action's target. While the pulse is
driven this is noted, and the retirement falls at the pulse's end; afterwards the action is retired DONE at once. -/
def execFeedbackTargetSensed (pins : Contacts) (s : State) : Host.Outcome State Fault Refusal :=
  unlessHeld s fun s =>
    match s.rsq.inFlight with
    | none => s.withPins pins
    | some f =>
      let s := s.withPins (setContact pins f.action.outlet f.action.kind.target)
      if f.pulse.isSome then { s with rsq := { s.rsq with inFlight := some { f with targetSeen := true } } }
      else (s.retireDone f.action).choose

/-- COIL_PULSE_END (R138): the action is retired DONE if the feedback has shown its target by now; otherwise the window
runs on. -/
def execCoilPulseEnd (pins : Contacts) (s : State) : Host.Outcome State Fault Refusal :=
  unlessHeld s fun s =>
    let s := s.withPins pins
    match s.rsq.inFlight with
    | none => s
    | some f =>
      if f.pulse.isNone then s
      else if f.targetSeen || s.sensed f.action.outlet == f.action.kind.target then (s.retireDone f.action).choose
      else { s with rsq := { s.rsq with inFlight := some { f with pulse := none } } }

/-- FEEDBACK_WINDOW_TIMEOUT (R138, R140): retired FEEDBACK_TIMEOUT, unless the feedback has shown the target or shows it
now: then it is retired DONE, at the pulse's end if the pulse is still driven (log entry 19). -/
def execFeedbackWindowTimeout (pins : Contacts) (s : State) : Host.Outcome State Fault Refusal :=
  unlessHeld s fun s =>
    let s := s.withPins pins
    match s.rsq.inFlight with
    | none => s
    | some f =>
      if f.targetSeen || s.sensed f.action.outlet == f.action.kind.target then
        if f.pulse.isSome then { s with rsq := { s.rsq with inFlight := some { f with targetSeen := true } } }
        else (s.retireDone f.action).choose
      else (s.retireTimeout f.action).choose

/-- PULSE_END_ADOPTION (R146): a pulse left running by a RESTART ends. If the station has since entered WARMUP the outlet
is adopted; in CONFIG the result is not recorded (R147). -/
def execPulseEndAdoption (o : OutletIx) (pins : Contacts) (s : State) : Host.Outcome State Fault Refusal :=
  unlessHeld s fun s =>
    let s := s.withPins pins
    let x := s.outlet o
    if x.residualPulse.isNone then s
    else
      let x := { x with residualPulse := none }
      s.setOutlet o (if s.mpt.phase = .config then x else x.adopt (s.sensed o))

/-- The position the check expects of an outlet with no action in flight (R142). -/
def State.expected (s : State) (o : OutletIx) : Option Position :=
  match s.pendingFor o with
  | none => some (s.outlet o).commanded
  | some p => if p.action.kind = .rearm then none else some (s.outlet o).feedback

/-- The check of one outlet (R142). -/
def State.checkOutlet (s : State) (o : OutletIx) : State :=
  if (s.rsq.inFlightFor o).isSome then s
  else
    let x := { s.outlet o with feedback := s.sensed o }
    if x.actuator = .enabled ∧ (s.expected o).any (fun e => e != s.sensed o) then
      (s.setOutlet o { x with actuator := .faulted }).raise (.outletFault o .spontaneous)
    else s.setOutlet o x

/-- MISMATCH_CHECK (R142): a sweep completion of RUN is taken, and the outlets are checked in ascending order. -/
def execMismatchCheck (pins : Contacts) (s : State) : Host.Outcome State Fault Refusal :=
  unlessHeld s fun s =>
    let s := s.withPins pins
    if s.rsq.sweeps = 0 then s
    else
      allOutlets.foldl State.checkOutlet { s with rsq := { s.rsq with sweeps := s.rsq.sweeps - 1 } }

end Sys2Proof.Machine
end

