-- ==== Sys2Proof/Machine/BranchMonitor.lean ====
section
/-! DEFINITION. The Branch Monitor (07_branch_protection.md): the branch current (R124), the state step (R125), trips
(R126, R127), TRIPPING (R128), restores (R129, R130). -/

namespace Sys2Proof.Machine

/-- The sum of the counted current over a branch's outlets (R124). -/
def State.branchCurrent (s : State) (b : BranchIx) : Nat := ((outletsOf b).map fun o => (s.counted o).i).sum

/-- The branch-shed count (R123). -/
def State.branchShedCount (s : State) (b : BranchIx) : Nat :=
  ((outletsOf b).filter fun o => (s.outlet o).reason == .branch).length

/-- A branch action is pending (R123). -/
def State.branchActionPending (s : State) (b : BranchIx) : Bool := (outletsOf b).any s.branchPending

/-- The action the BRM requests (R126, R129). -/
def State.branchAction (s : State) (o : OutletIx) (kind : ActionKind) : Action :=
  { outlet := o, kind := kind, origin := .branch, slot := (s.outlet o).slot }

/-- An outlet may be tripped (R126). -/
def State.mayTrip (s : State) (o : OutletIx) : Bool :=
  let x := s.outlet o
  x.commanded == .closed && x.actuator == .enabled && decide (x.rank.val ≤ 14) && !s.branchPending o

/-- The trip candidate (R126): lowest rank, then highest counted current, then lowest index. -/
def State.tripCandidate (s : State) (b : BranchIx) : Option OwnCandidate :=
  pick shedBefore <| ((outletsOf b).filter s.mayTrip).map fun o => ⟨o, (s.outlet o).rank.val, (s.counted o).i⟩

/-- A branch is unprotectable (R127). -/
def State.unprotectable (s : State) (b : BranchIx) : State :=
  if (s.branch b).unprotectable then s
  else (s.setBranch b { s.branch b with unprotectable := true }).raise (.branchUnprotectable b)

/-- A trip that is accepted (R126, R14). -/
def State.tripOutlet (s : State) (b : BranchIx) (o : OutletIx) : State :=
  let counted := s.counted o
  let s := s.enqueue (s.branchAction o .openRelay)
  let s := s.setOutlet o ((s.outlet o).opened .branch counted)
  let s := s.raise (.branchTrip b o)
  (s.setBranch b { s.branch b with state := .tripping, tripped := some o }).choose

/-- The trip (R126, R127). A refused request changes nothing. -/
def State.trip (s : State) (b : BranchIx) : State :=
  match s.tripCandidate b with
  | none => s.unprotectable b
  | some c =>
    match s.requestOutcome (s.branchAction c.outlet .openRelay) with
    | .accepted => s.tripOutlet b c.outlet
    | .merged => s
    | .busy => s
    | .queueFull => s

/-- The trip test (R125): at the trip delay, and with no branch action pending, the branch trips. -/
def State.tripTest (s : State) (b : BranchIx) : State :=
  if (s.branch b).overCount = (s.branch b).tripDelay ∧ s.branchActionPending b = false then s.trip b else s

/-- An outlet may be restored by the BRM (R129). -/
def State.mayBranchRestore (s : State) (o : OutletIx) : Bool :=
  let x := s.outlet o
  x.reason == .branch && x.actuator == .enabled && !s.hasPending o

/-- The branch's restore candidate (R129): highest rank, then smallest remembered current, then lowest index. -/
def State.branchRestoreCandidate (s : State) (b : BranchIx) : Option OwnCandidate :=
  pick restoreBefore <| ((outletsOf b).filter s.mayBranchRestore).map fun o =>
    ⟨o, (s.outlet o).rank.val, (s.outlet o).storedDraw.i⟩

/-- The candidate's tenant has room (R129). -/
def State.tenantHasRoom (s : State) (o : OutletIx) : Bool :=
  match (s.outlet o).slot with
  | none => true
  | some k =>
    let r := s.slot k
    (r.state == .within || r.state == .recovery || r.state == .uncontracted) &&
      (!((s.outlet o).cls == .contracted && s.contracted k) ||
        decide (r.aggregate + (s.outlet o).storedDraw.byMode (s.tenant k).mode ≤ r.contract))

/-- The branch restore threshold floor(limit × R_branch / 100) (R18, R129). -/
def Branch.threshold (x : Branch) : Nat := x.limit * x.restorePercent / 100

/-- The restore test passes for a candidate (R129). -/
def State.branchRoom (s : State) (b : BranchIx) (c : OwnCandidate) : Bool :=
  s.branchActionPending b == false &&
    decide ((s.branch b).current + c.draw ≤ (s.branch b).threshold) && s.tenantHasRoom c.outlet

/-- A branch's hold count is set. -/
def State.setBranchHold (s : State) (b : BranchIx) (n : Nat) : State :=
  s.setBranch b { s.branch b with holdCount := n }

/-- A branch restore that is accepted (R129, R16). -/
def State.restoreOutlet (s : State) (b : BranchIx) (o : OutletIx) : State :=
  let s := s.enqueue (s.branchAction o .closeRelay)
  let s := s.setOutlet o (s.outlet o).restored
  (s.setBranchHold b 0).choose

/-- The branch restore test (R129). -/
def State.branchRestoreTest (s : State) (b : BranchIx) : State :=
  match s.branchRestoreCandidate b with
  | none => s.setBranchHold b 0
  | some c =>
    if s.branchRoom b c then
      let hold := min ((s.branch b).holdCount + 1) (s.branch b).restoreHold
      let s := s.setBranchHold b hold
      if hold = (s.branch b).restoreHold then
        match s.requestOutcome (s.branchAction c.outlet .closeRelay) with
        | .accepted => s.restoreOutlet b c.outlet
        | .merged => s
        | .busy => s
        | .queueFull => s
      else s
    else s.setBranchHold b 0

/-- The branch goes to SHED or NORMAL when it is not over, by its branch-shed count (R125, R128). -/
def State.restState (s : State) (b : BranchIx) : BranchState :=
  if s.branchShedCount b = 0 then .normal else .shed

/-- The tripped outlet is finished at the relay and hidden from the meter no more (R128). -/
def State.tripFinished (s : State) (b : BranchIx) : Bool :=
  match (s.branch b).tripped with
  | some o => !s.branchPending o && (s.outlet o).countdown == 0
  | none => true

/-- A branch in TRIPPING (R128). -/
def State.stepTripping (s : State) (b : BranchIx) (isOver : Bool) : State :=
  let x := s.branch b
  if !s.tripFinished b then s
  else if isOver then s.setBranch b { x with state := .overload, overCount := x.tripDelay, tripped := none }
  else
    let s' := s.setBranch b
      { x with state := s.restState b, overCount := 0, tripped := none, unprotectable := false }
    if s.restState b = .shed then s'.branchRestoreTest b else s'

/-- The state step of a branch (R125), with the branch current already stored. -/
def State.stepBranchState (s : State) (b : BranchIx) : State :=
  let x := s.branch b
  let isOver := decide (x.limit < x.current)
  match x.state with
  | .normal =>
    if isOver then (s.setBranch b { x with state := .overload, overCount := 1 }).tripTest b else s
  | .shed =>
    if isOver then (s.setBranch b { x with state := .overload, overCount := 1, holdCount := 0 }).tripTest b
    else if s.branchShedCount b = 0 then s.setBranch b { x with state := .normal, holdCount := 0 }
    else s.branchRestoreTest b
  | .overload =>
    if isOver then (s.setBranch b { x with overCount := min (x.overCount + 1) x.tripDelay }).tripTest b
    else s.setBranch b { x with state := s.restState b, overCount := 0, unprotectable := false }
  | .tripping => s.stepTripping b isOver

/-- The BRM's work for one branch: the current is formed and stored, then the state steps (R124, R125). The outlets
and the lanes are read as the lower branches' work has left them, with what the choices of R136 have changed (the model's choice,
log entry 37). -/
def State.stepBranch (s : State) (b : BranchIx) : State :=
  (s.setBranch b { s.branch b with current := s.branchCurrent b }).stepBranchState b

/-- BRM_SWEEP_COMPLETION (R124): a sweep completion of RUN is taken, and the branches are worked in ascending order, each
on the state that the lower branches' requests have left. R124 says that a branch's work touches only that branch's outlets and
record: that a later branch sees what a lower branch's append has made the sequencer change (R136: a CLOSE of a FAULTED outlet
retired, a REARM behind it done) is the model's choice (log entry 37). -/
def execBrmSweepCompletion (pins : Contacts) (s : State) : Host.Outcome State Fault Refusal :=
  unlessHeld s fun s =>
    let s := s.withPins pins
    if s.brm.sweeps = 0 then s
    else allBranches.foldl State.stepBranch { s with brm := { s.brm with sweeps := s.brm.sweeps - 1 } }

end Sys2Proof.Machine
end

