-- ==== Sys2Proof/Machine/ContributionTable.lean ====
section
/-! DEFINITION. The Contribution Table (05_the_contribution_table.md): coverage (R85), learning (R86 to R90), aging (R91,
R92), pending adjustments (R94, R95). -/

namespace Sys2Proof.Machine

/-- A station is covered for a slot (R85). -/
def State.covered (s : State) (k : SlotIx) (station : Nat) : Bool :=
  (s.fixedOf k).any fun e => e.covers == some station

/-- The place of the dynamic entry with a key (R82, R86). -/
def State.placeOf (s : State) (k : SlotIx) (station : Nat) : Option PlaceIx :=
  allPlaces.find? fun i => (s.entry i).any fun e => e.slot == k && e.station == station

/-- The free place with the lowest index (R88). -/
def State.freePlace (s : State) : Option PlaceIx := allPlaces.find? fun i => (s.entry i).isNone

/-- An entry holds what a summary entry says, at age 0 and without an adjustment (R87, R88). -/
def entryFrom (k : SlotIx) (station stamp : Nat) (mismatch : Bool) (e : SummaryEntry) : DynEntry where
  slot := k
  station := station
  contribution := e.contribution
  code := e.code
  state := e.state
  shed := e.shed
  restore := e.restore
  age := 0
  stamp := stamp
  adjustment := none
  mismatch := mismatch

/-- The contract-mismatch check on the entry at a place (R90). Where both codes are 0 the table's row a = c applies and the
report becomes no, although R90 also says that a peer that advertises 0 does not clear it (the model's choice, log entry
38). -/
def State.checkMismatch (s : State) (i : PlaceIx) (e : DynEntry) : State :=
  if e.code = (s.tenant e.slot).contractCode then s.setEntry i (some { e with mismatch := false })
  else if e.code = 0 then s.setEntry i (some e)
  else if e.mismatch then s.setEntry i (some e)
  else (s.setEntry i (some { e with mismatch := true })).raise (.contractMismatch e.slot e.station e.code)

/-- A creation refused by a full table (R89). -/
def State.refuseCreation (s : State) (k : SlotIx) (station : Nat) : State :=
  if s.ctb.full then s
  else { s with ctb := { s.ctb with full := true } }.raise (.tableFull k station)

/-- One summary entry is learned (R86): ignored when covered, else refreshed (R87) or created (R88, R89). -/
def State.learn (s : State) (station stamp : Nat) (k : SlotIx) (e : SummaryEntry) : State :=
  if s.covered k station then s
  else
    match s.placeOf k station with
    | some i => s.checkMismatch i (entryFrom k station stamp ((s.entry i).any (·.mismatch)) e)
    | none =>
      match s.freePlace with
      | some i => s.checkMismatch i (entryFrom k station stamp false e)
      | none => s.refuseCreation k station

/-- The tenant entries of a SUMMARY are looked up and learned in the order they stand (R76, R86). -/
def State.learnSummary (s : State) (station stamp : Nat) (entries : List SummaryEntry) : State :=
  entries.foldl
    (fun s e =>
      match s.slotOf e.tenantId with
      | some k => s.learn station stamp k e
      | none => s) s

/-- The aging of the entry at a place (R92): age 2 reaches 3 and is removed, with PEER_EXPIRED and the table-full condition
cleared. -/
def State.ageEntry (s : State) (i : PlaceIx) : State :=
  match s.entry i with
  | none => s
  | some e =>
    if e.age < 2 then s.setEntry i (some { e with age := e.age + 1 })
    else
      let s := s.setEntry i none
      { s with ctb := { s.ctb with full := false } }.raise (.peerExpired e.slot e.station)

/-- The aging period of 2 × X seconds (R91). -/
def State.agingTicks (s : State) : Nat := 2 * s.station.exchange * Config.secondTicks

/-- AGING_TIMER_EXPIRY (R91, R92). -/
def execAgingTimerExpiry (s : State) : Host.Outcome State Fault Refusal :=
  unlessHeld s fun s =>
    match s.ctb.timer with
    | none => s
    | some _ => allPlaces.foldl State.ageEntry { s with ctb := { s.ctb with timer := some s.agingTicks } }

/-- What an adjustment's expiry leaves of it (R95): nothing; but the expiry of an adjustment that a NOTE of the same moment
has already replaced no longer applies, and the new one stays (log entry 32). -/
def Adjustment.expire (a : Adjustment) : Option Adjustment := if a.oldDue then some { a with oldDue := false } else none

/-- PENDING_ADJUSTMENT_EXPIRY (R95): the adjustment is removed, and nothing else changes. An expiry of the moment in which a
NOTE replaced the adjustment leaves the new one. Whatever time an adjustment has left, its expiry is taken (log entry
2). -/
def execPendingAdjustmentExpiry (i : PlaceIx) (s : State) : Host.Outcome State Fault Refusal :=
  unlessHeld s fun s =>
    match s.entry i with
    | some e => s.setEntry i (some { e with adjustment := e.adjustment.bind Adjustment.expire })
    | none => s

/-- T seconds (R94, R114). -/
def State.settleTicks (s : State) : Nat := s.station.settleTallies * Config.secondTicks

/-- An adjustment's expiry falls in this moment and has not been taken (R95). -/
def Adjustment.isDue (a : Adjustment) : Bool := a.oldDue || Timer.due (some a.left)

/-- The table takes a NOTE (R94): its adjustment replaces any the entry has (R95). -/
def State.applyNote (s : State) (n : HeardNote) : State :=
  if s.covered n.slot n.station then s
  else
    match s.placeOf n.slot n.station with
    | none => s
    | some i =>
      s.setEntry i ((s.entry i).map fun e =>
        { e with adjustment := some {
            direction := n.direction
            draw := n.draw
            left := s.settleTicks
            oldDue := e.adjustment.any Adjustment.isDue } })

/-- CTB_NOTE (R94): the oldest NOTE handed to the table is taken. -/
def execCtbNote (s : State) : Host.Outcome State Fault Refusal :=
  unlessHeld s fun s =>
    match s.ctb.notes with
    | [] => s
    | n :: rest => { s with ctb := { s.ctb with notes := rest } }.applyNote n

end Sys2Proof.Machine
end

