-- ==== Sys2Proof/Machine/RowLink.lean ====
section
/-! DEFINITION. The Row Link Controller (04_the_row_link.md): the frames and their bytes (R67 to R71, R177), the transmit
queue (R72 to R74), transmission (R65, R66, R78), reception (R75, R76) and the duplicate-station check (R79, R80). -/

namespace Sys2Proof.Machine

/-! ### Frames as bytes -/

/-- A candidate's three bytes (R177): absent is all zero. -/
def candidateBytes : Option Candidate → List Byte
  | some c => BitVec.ofNat 8 (128 + c.rank) :: natBytes 2 c.draw
  | none => [0, 0, 0]

/-- A tenant entry's fourteen bytes (R177). -/
def entryBytes (e : SummaryEntry) : List Byte :=
  natBytes 2 e.tenantId ++ natBytes 3 e.contribution ++ natBytes 2 e.code ++ [e.state.code] ++
    candidateBytes e.shed ++ candidateBytes e.restore

/-- The frame class (R65): NOTE 0, SUMMARY 1, ANNOUNCE 2. -/
def FrameContent.cls : FrameContent → Nat
  | .note _ _ _ _ _ => 0
  | .summary _ _ _ _ => 1
  | .announce _ => 2

/-- A frame's bytes between its key and its CRC (R177). -/
def FrameContent.bytes : FrameContent → List Byte
  | .announce n => [BitVec.ofNat 8 n]
  | .summary stamp segment last entries =>
    [BitVec.ofNat 8 stamp,
      BitVec.ofNat 8 ((if last then 128 else 0) + segment * 16 + entries.length)] ++ entries.flatMap entryBytes
  | .note tenantId direction rank draw stamp =>
    natBytes 2 tenantId ++ [BitVec.ofNat 8 (direction.code.toNat * 128 + rank)] ++ natBytes 2 draw ++
      [BitVec.ofNat 8 stamp]

/-- The arbitration key (R65, R176): the class in bits 7..6, the station ID in bits 5..0. -/
def keyByte (station : Nat) (c : FrameContent) : Byte := BitVec.ofNat 8 (c.cls * 64 + station)

/-- A whole frame: key, content, CRC (R177, R178). -/
def frameBytes (station : Nat) (c : FrameContent) : List Byte :=
  (keyByte station c :: c.bytes) ++ crcBytes (keyByte station c :: c.bytes)

/-- A candidate's flag byte and draw as received, with the largest rank allowed; the outer `none` is a field out of range
(R75, R177). -/
def parseCandidate (maxRank flags draw : Nat) : Option (Option Candidate) :=
  if flags = 0 ∧ draw = 0 then some none
  else if 128 ≤ flags ∧ flags < 128 + 16 ∧ flags - 128 ≤ maxRank ∧ draw ≤ Config.maxPower then
    some (some ⟨flags - 128, draw⟩)
  else none

/-- A tenant entry as received (R75, R177). -/
def parseEntry (bytes : List Byte) : Option SummaryEntry :=
  let num (i w : Nat) : Nat := bytesNat ((bytes.drop i).take w)
  match tenantStateOf (num 7 1), parseCandidate 14 (num 8 1) (num 9 2), parseCandidate 15 (num 11 1) (num 12 2) with
  | some state, some shed, some restore =>
    if 1 ≤ num 0 2 ∧ num 0 2 ≤ 4095 then
      some {
        tenantId := num 0 2
        contribution := num 2 3
        code := num 5 2
        state := state
        shed := shed
        restore := restore }
    else none
  | _, _, _ => none

/-- `n` tenant entries of fourteen bytes each. -/
def parseEntries : Nat → List Byte → Option (List SummaryEntry)
  | 0, _ => some []
  | n + 1, bytes =>
    match parseEntry (bytes.take 14), parseEntries n (bytes.drop 14) with
    | some e, some rest => some (e :: rest)
    | _, _ => none

/-- The content of a NOTE as received (R75, R177). -/
def parseNote (bytes : List Byte) : Option FrameContent :=
  let num (i w : Nat) : Nat := bytesNat ((bytes.drop i).take w)
  if bytes.length = 6 ∧ 1 ≤ num 0 2 ∧ num 0 2 ≤ 4095 ∧ num 2 1 % 128 < 16 ∧ num 3 2 ≤ Config.maxPower then
    some (.note (num 0 2) (if num 2 1 < 128 then .shed else .restore) (num 2 1 % 128) (num 3 2) (num 5 1))
  else none

/-- The content of a SUMMARY as received (R75, R177). The last-segment flag is not checked against the index. -/
def parseSummary (bytes : List Byte) : Option FrameContent :=
  let num (i w : Nat) : Nat := bytesNat ((bytes.drop i).take w)
  let count := num 1 1 % 16
  let segment := num 1 1 / 16 % 8
  if bytes.length = 2 + 14 * count ∧ 1 ≤ count ∧ count ≤ 8 ∧ segment ≤ 1 then
    (parseEntries count (bytes.drop 2)).map fun entries =>
      .summary (num 0 1) segment (decide (128 ≤ num 1 1)) entries
  else none

/-- The content of an ANNOUNCE as received (R75, R177). -/
def parseAnnounce : List Byte → Option FrameContent
  | [n] => if 1 ≤ n.toNat ∧ n.toNat ≤ 16 then some (.announce n.toNat) else none
  | _ => none

/-- The content by the key's class (R75). -/
def parseContent (cls : Nat) (bytes : List Byte) : Option FrameContent :=
  match cls with
  | 0 => parseNote bytes
  | 1 => parseSummary bytes
  | 2 => parseAnnounce bytes
  | _ => none

/-- The sender and content of a valid frame; `none` when a check of R75 fails (CRC, length, field ranges). -/
def parseFrame (bytes : List Byte) : Option (Nat × FrameContent) :=
  let body := bytes.take (bytes.length - 2)
  match body with
  | [] => none
  | key :: rest =>
    if crcBytes body = bytes.drop (bytes.length - 2) ∧ 1 ≤ key.toNat % 64 then
      (parseContent (key.toNat / 64) rest).map fun c => (key.toNat % 64, c)
    else none

/-! ### The transmit queue -/

/-- The number of frames queued, the one on the line included (R72). -/
def Rlc.queued (r : Rlc) : Nat := r.onLine.toList.length + r.noteRun.length + r.otherRun.length

/-- The segment index of a queued SUMMARY (R72). -/
def TxFrame.segment (f : TxFrame) : Option Nat :=
  match f.content with
  | .summary _ i _ _ => some i
  | .note _ _ _ _ _ => none
  | .announce _ => none

/-- A SUMMARY with this segment index is queued and not on the line (R73). -/
def Rlc.hasSegment (r : Rlc) (i : Nat) : Bool := r.otherRun.any fun f => f.segment == some i

/-- A SUMMARY segment is handed to the queue (R73). -/
def Rlc.putSummary (r : Rlc) (i : Nat) (c : FrameContent) : Rlc :=
  if r.hasSegment i then
    { r with otherRun := r.otherRun.map fun f => if f.segment = some i then ⟨c, 0⟩ else f }
  else if r.queued < Config.txCapacity then { r with otherRun := r.otherRun ++ [⟨c, 0⟩] }
  else r

/-- A NOTE is handed to the queue (R74): with 8 held, the oldest SUMMARY or ANNOUNCE not on the line is evicted (log entry
23), and a try meant for that frame is then for the new head (log entry 33); with none, the NOTE is discarded. -/
def Rlc.putNote (r : Rlc) (c : FrameContent) : Rlc :=
  if r.queued < Config.txCapacity then { r with noteRun := r.noteRun ++ [⟨c, 0⟩] }
  else
    match r.otherRun with
    | _ :: rest => { r with otherRun := rest, noteRun := r.noteRun ++ [⟨c, 0⟩], tryOther := false }
    | [] => r

/-- A frame returns to the front of its own run (R72); an older SUMMARY segment is dropped when a newer one of its index is
queued (R73). -/
def Rlc.putBack (r : Rlc) (f : TxFrame) : Rlc :=
  match f.content with
  | .note _ _ _ _ _ => { r with noteRun := f :: r.noteRun }
  | .summary _ i _ _ => if r.hasSegment i then r else { r with otherRun := f :: r.otherRun }
  | .announce _ => { r with otherRun := f :: r.otherRun }

/-- The frame whose turn it is leaves its run for the line: the head of the queue (R72), or, when a try of DOWN is for a
SUMMARY or ANNOUNCE that was at the head at the expiry, that frame, ahead of the NOTEs that have joined since (R78). -/
def Rlc.takeHead (r : Rlc) : Rlc :=
  match r.tryOther, r.noteRun, r.otherRun with
  | false, f :: rest, _ => { r with noteRun := rest, onLine := some f }
  | false, [], f :: rest => { r with otherRun := rest, onLine := some f }
  | false, [], [] => r
  | true, _, f :: rest => { r with otherRun := rest, onLine := some f, tryOther := false }
  | true, f :: rest, [] => { r with noteRun := rest, onLine := some f, tryOther := false }
  | true, [], [] => r

/-- The expiry of the retry timer (R78): with no try under way and a frame queued, one try is allowed, for the frame then at
the head. A try whose frame has found no idle line since an earlier expiry is under way, and stays for that frame (the model's
choice, log entry 36). -/
def Rlc.allowTry (r : Rlc) : Rlc :=
  if r.tryOn then r
  else { r with
    tryOn := decide (0 < r.queued)
    tryOther := r.onLine.isNone && r.noteRun.isEmpty && !r.otherRun.isEmpty }

/-- Whether the head may contend at an idle line (R72, R77, R78). -/
def Rlc.mayContend (r : Rlc) : Bool :=
  match r.link with
  | .listen => true
  | .active => true
  | .down => r.tryOn
  | .off => false
  | .silent => false

/-- NOTE and SUMMARY frames are accepted in ACTIVE and DOWN (04_the_row_link.md, "Link states"). -/
def Rlc.accepts (r : Rlc) : Bool := r.link == .active || r.link == .down

/-! ### Building -/

/-- The interval stamp (R39). -/
def State.intervalStamp (s : State) : Nat := s.tly.count % 256

/-- The tenant entry of an in-use slot (R45, R68, R103, R110). -/
def State.summaryEntry (s : State) (k : SlotIx) : SummaryEntry :=
  let t := s.tenant k
  if t.contractCode = 0 then
    { tenantId := t.tenantId.getD 0
      contribution := 0
      code := 0
      state := (s.slot k).state
      shed := none
      restore := none }
  else
    { tenantId := t.tenantId.getD 0
      contribution := s.localContribution k
      code := t.contractCode
      state := (s.slot k).state
      shed := (s.ownShed k).map (·.advertised)
      restore := (s.ownRestore k).map (·.advertised) }

/-- A segment for the slots it carries (R69, R70). -/
def State.segmentFrame (s : State) (i : Nat) (last : Bool) (slots : List SlotIx) : FrameContent :=
  .summary s.intervalStamp i last (slots.map s.summaryEntry)

/-- Every segment of the summary is built and handed to the queue (R69, R70). With no slot in use there is no segment
(R69). -/
def State.sendSummaries (s : State) : State :=
  let used := s.usedSlots
  let rest := used.drop 8
  if used.isEmpty then s
  else
    let r := s.rlc.putSummary 0 (s.segmentFrame 0 rest.isEmpty (used.take 8))
    { s with rlc := if rest.isEmpty then r else r.putSummary 1 (s.segmentFrame 1 true rest) }

/-- A note request from the CUR (R71): discarded unless the queue accepts NOTEs. -/
def State.sendNote (s : State) (tenantId : Nat) (d : NoteDirection) (rank draw : Nat) : State :=
  if s.rlc.accepts then { s with rlc := s.rlc.putNote (.note tenantId d rank draw s.intervalStamp) } else s

/-- RLC_TALLY_COMPLETION (R70): the oldest completion is taken; when its count is a multiple of X, summaries are built,
but not in SILENT (R80). -/
def execRlcTallyCompletion (s : State) : Host.Outcome State Fault Refusal :=
  unlessHeld s fun s =>
    match s.rlc.tallies with
    | [] => s
    | n :: rest =>
      let s := { s with rlc := { s.rlc with tallies := rest } }
      if n % s.station.exchange = 0 ∧ s.rlc.accepts then s.sendSummaries else s

/-! ### Transmission -/

/-- CONTEND_ON_IDLE_LINE (R64, R65, R72, R78): the head starts on an idle line when it may; in DOWN a try starts the frame
that was at the head at the retry timer's expiry. -/
def execContendOnIdleLine (s : State) : Host.Outcome State Fault Refusal :=
  unlessHeld s fun s =>
    if s.rlc.onLine.isNone ∧ s.rlc.mayContend then { s with rlc := s.rlc.takeHead } else s

/-- ARBITRATION_LOST (R65): the frame goes back to the front of its run, its counts as they were. -/
def execArbitrationLost (s : State) : Host.Outcome State Fault Refusal :=
  unlessHeld s fun s =>
    match s.rlc.onLine with
    | none => s
    | some f => { s with rlc := { s.rlc with onLine := none }.putBack f }

/-- TRANSMIT_SUCCESS (R66, R78): the frame leaves the queue, the failure count becomes 0, and a link in DOWN returns to
ACTIVE with LINK_UP. -/
def execTransmitSuccess (s : State) : Host.Outcome State Fault Refusal :=
  unlessHeld s fun s =>
    match s.rlc.onLine with
    | none => s
    | some _ =>
      let s' := { s with rlc := { s.rlc with onLine := none, failures := 0 } }
      if s.rlc.link = .down then
        { s' with rlc := { s'.rlc with link := .active, retry := none, tryOn := false, tryOther := false } }.raise .linkUp
      else s'

/-- The queue and the failure count after a failed attempt (R66). -/
def Rlc.failed (r : Rlc) (f : TxFrame) : Rlc :=
  let r := { r with
    onLine := none, tryOn := false, tryOther := false, failures := min (r.failures + 1) Config.maxFailures }
  if f.attempts + 1 < Config.maxAttempts then r.putBack { f with attempts := f.attempts + 1 } else r

/-- TRANSMIT_FAILURE (R66, R78): the sixteenth consecutive failure in ACTIVE takes the link to DOWN with LINK_DOWN. -/
def execTransmitFailure (s : State) : Host.Outcome State Fault Refusal :=
  unlessHeld s fun s =>
    match s.rlc.onLine with
    | none => s
    | some f =>
      let s := { s with rlc := s.rlc.failed f }
      if s.rlc.link = .active ∧ s.rlc.failures = Config.maxFailures then
        { s with rlc := { s.rlc with link := .down, retry := some Config.retryTicks } }.raise .linkDown
      else s

/-- RETRY_TIMER_EXPIRY (R78): the timer starts again, and one try is allowed when the queue holds a frame and no try is
under way. -/
def execRetryTimerExpiry (s : State) : Host.Outcome State Fault Refusal :=
  unlessHeld s fun s =>
    match s.rlc.retry with
    | none => s
    | some _ => { s with rlc := { s.rlc.allowTry with retry := some Config.retryTicks } }

/-! ### Reception -/

/-- The receive-error count rises and stays at 65,535 (R75). -/
def State.receiveError (s : State) : State :=
  { s with rlc := { s.rlc with rxErrors := min (s.rlc.rxErrors + 1) Config.maxRxErrors } }

/-- Entry into SILENT (R79, R80). -/
def State.goSilent (s : State) : State :=
  { s with rlc := { s.rlc with
      link := .silent, onLine := none, noteRun := [], otherRun := [], retry := none, tryOn := false
      tryOther := false } }.raise .duplicateStation

/-- A received NOTE for a tenant served here is handed to the CTB and to the CUR (R76). -/
def State.handNote (s : State) (n : HeardNote) : State :=
  { s with
    ctb := { s.ctb with notes := s.ctb.notes ++ [n] }
    cur := { s.cur with notes := s.cur.notes ++ [n] } }

/-- A valid frame is handed on by its kind (R76, R79). A SUMMARY is learned here, at once, while a NOTE waits for CTB_NOTE: so
a SUMMARY received while an earlier NOTE of its sender waits is learned ahead of that NOTE, and CTB_NOTE then applies the NOTE
to the refreshed entry (the model's choice, log entry 34). -/
def State.handFrame (s : State) (station : Nat) (c : FrameContent) : State :=
  if station = s.station.id then (if s.rlc.link = .silent then s else s.goSilent)
  else
    match c with
    | .announce _ => s
    | .summary stamp _ _ entries => s.learnSummary station stamp entries
    | .note tenantId direction rank draw stamp =>
      match s.slotOf tenantId with
      | none => s
      | some k => s.handNote ⟨k, station, direction, rank, draw, stamp⟩

/-- FRAME_RECEIVED (R75, R76, R176). In OFF nothing is read; a frame in whose time this station drove beyond the key, or
while its own frame is on the line, is neither checked nor counted (log entry 21). -/
def execFrameReceived (f : LineFrame) (s : State) : Host.Outcome State Fault Refusal :=
  unlessHeld s fun s =>
    if s.rlc.link = .off then s
    else if f.droveBeyondKey || s.rlc.onLine.isSome then s
    else if !f.stopBitsGood then s.receiveError
    else
      match parseFrame f.bytes with
      | none => s.receiveError
      | some (station, c) => s.handFrame station c

end Sys2Proof.Machine
end

