-- ==== Sys2Proof/Machine/Curtailment.lean ====
section
/-! DEFINITION. The Curtailment Unit (06_curtailment_and_restoration.md): the shed election (R106 to R109), the restore
test and election (R112, R113), the settle timer (R114 to R116). -/

namespace Sys2Proof.Machine

/-- A settle timer started, again if it was running (R115); a running out that falls in this moment no longer applies
(R116; log entry 32). -/
def CurSlot.restart (c : CurSlot) (ticks : Nat) : CurSlot :=
  { c with settle := some ticks, oldDue := c.oldDue || Timer.due c.settle }

/-- A slot's settle timer is started at T seconds (R114, R115). -/
def State.startSettle (s : State) (k : SlotIx) : State := s.setCurSlot k ((s.curSlot k).restart s.settleTicks)

/-- A slot's hold counter is set. -/
def State.setHold (s : State) (k : SlotIx) (n : Nat) : State := s.setCurSlot k { s.curSlot k with hold := n }

/-- The action a tenant election requests (R107, R113). -/
def tenantAction (k : SlotIx) (o : OutletIx) (kind : ActionKind) : Action :=
  { outlet := o, kind := kind, origin := .tenant, slot := some k }

/-- The uncurtailable test (R109). -/
def State.uncurtailable (s : State) (k : SlotIx) (stamp : Nat) : State :=
  if (s.curSlot k).uncurtailable then s
  else (s.setCurSlot k { s.curSlot k with uncurtailable := true }).raiseAt stamp (.uncurtailable k)

/-- The tenant ID of a slot in use. -/
def State.tenantIdOf (s : State) (k : SlotIx) : Nat := (s.tenant k).tenantId.getD 0

/-- A shed election that takes effect (R107, R13): the outlet, the note request, the notice, the settle timer, and the
choice the append calls for (R136), whose notices carry the completion's count too (R172). The remembered draw is the counted draw before the OPEN is appended (R9). -/
def State.electShed (s : State) (k : SlotIx) (stamp : Nat) (o : OutletIx) (rank draw : Nat) : State :=
  let counted := s.counted o
  let s := s.enqueue (tenantAction k o .openRelay)
  let s := s.setOutlet o ((s.outlet o).opened .tenant counted)
  let s := s.sendNote (s.tenantIdOf k) .shed rank draw
  let s := s.raiseAt stamp (.shedElected k o rank draw)
  (s.startSettle k).chooseAt stamp

/-- The shed election (R106, R108): uncurtailable with no candidate in view; waiting when a peer's comes first; else the
own candidate is shed if the standard lane has room. -/
def State.shedElection (s : State) (k : SlotIx) (stamp : Nat) : State :=
  match s.firstShed k with
  | none => s.uncurtailable k stamp
  | some c =>
    match c.own with
    | none => s
    | some o =>
      match s.requestOutcome (tenantAction k o .openRelay) with
      | .accepted => s.electShed k stamp o c.rank c.draw
      | .merged => s
      | .busy => s
      | .queueFull => s

/-- A restore election that takes effect (R113, R16). -/
def State.electRestore (s : State) (k : SlotIx) (stamp : Nat) (o : OutletIx) (rank draw : Nat) : State :=
  let s := s.enqueue (tenantAction k o .closeRelay)
  let s := s.setOutlet o (s.outlet o).restored
  let s := s.sendNote (s.tenantIdOf k) .restore rank draw
  let s := s.raiseAt stamp (.restoreElected k o rank draw)
  ((s.startSettle k).setHold k 0).chooseAt stamp

/-- The restore election for the best candidate (R113): a peer's is waited for; the own one is restored if the standard
lane has room. -/
def State.restoreElection (s : State) (k : SlotIx) (stamp : Nat) (c : RowCandidate) : State :=
  match c.own with
  | none => s
  | some o =>
    match s.requestOutcome (tenantAction k o .closeRelay) with
    | .accepted => s.electRestore k stamp o c.rank c.draw
    | .merged => s
    | .busy => s
    | .queueFull => s

/-- The restore threshold floor(C × R / 100) (R3, R112). -/
def State.restoreThreshold (s : State) (k : SlotIx) : Nat :=
  (s.slot k).contract * (s.tenant k).restorePercent / 100

/-- The restore test (R112). -/
def State.restoreTest (s : State) (k : SlotIx) (stamp : Nat) : State :=
  match s.bestRestore k with
  | none => s.setHold k 0
  | some c =>
    if (s.slot k).aggregate + c.draw ≤ s.restoreThreshold k then
      let hold := min ((s.curSlot k).hold + 1) (s.tenant k).restoreHold
      let s := s.setHold k hold
      if hold = (s.tenant k).restoreHold then s.restoreElection k stamp c else s
    else s.setHold k 0

/-- Step 2 of R101: the flag and the hold counter brought up to date. -/
def CurSlot.refresh (c : CurSlot) (state : TenantState) : CurSlot :=
  { c with
    uncurtailable := c.uncurtailable && state == .overdrawn
    hold := if state = .recovery ∧ c.settle.isNone then c.hold else 0 }

/-- The CUR's work for one slot at a completion with this tally count (R101). The outlet records are read as they stand at
the slot's turn (R102), so with what the choices of R136 made for lower slots have changed (the model's choice, log entry
35). -/
def State.curtailSlot (stamp : Nat) (s : State) (k : SlotIx) : State :=
  if !s.inUse k then s
  else if (s.slot k).state = .uncontracted then s
  else
    let s := s.setCurSlot k ((s.curSlot k).refresh (s.slot k).state)
    if (s.curSlot k).settle.isSome then s
    else
      match (s.slot k).state with
      | .overdrawn => s.shedElection k stamp
      | .recovery => s.restoreTest k stamp
      | .within => s
      | .burst => s
      | .idle => s
      | .uncontracted => s

/-- CUR_TALLY_COMPLETION (R101): the oldest completion is taken, and the slots are worked in ascending order, each on the
state that the lower slots' elections have left. R101 speaks of the outlet records as they stand when the completion is taken
and R102 of the records as they then stand: that a later slot's election sees what a lower slot's append has made the
sequencer change (a queued REARM completed) is the model's choice (log entry 35). -/
def execCurTallyCompletion (pins : Contacts) (s : State) : Host.Outcome State Fault Refusal :=
  unlessHeld s fun s =>
    let s := s.withPins pins
    match s.cur.tallies with
    | [] => s
    | n :: rest => allSlots.foldl (State.curtailSlot n) { s with cur := { s.cur with tallies := rest } }

/-- CUR_NOTE (R115): the oldest NOTE handed to the CUR is taken; unless its sender is covered, the slot's settle timer is
started at T. -/
def execCurNote (s : State) : Host.Outcome State Fault Refusal :=
  unlessHeld s fun s =>
    match s.cur.notes with
    | [] => s
    | n :: rest =>
      let s := { s with cur := { s.cur with notes := rest } }
      if s.covered n.slot n.station then s else s.startSettle n.slot

/-- What its running out makes of a settle timer (R116): stopped; but one that a NOTE of the same moment has started again
runs on (log entry 32). -/
def CurSlot.expire (c : CurSlot) : CurSlot := if c.oldDue then { c with oldDue := false } else { c with settle := none }

/-- SETTLE_TIMER_EXPIRY (R116): the timer stops, and nothing else happens. After a NOTE of the same moment the timer runs on
with T seconds from the NOTE. Whatever time the timer has left, its expiry is taken (log entry 2). -/
def execSettleTimerExpiry (k : SlotIx) (s : State) : Host.Outcome State Fault Refusal :=
  unlessHeld s fun s => s.setCurSlot k (s.curSlot k).expire

end Sys2Proof.Machine
end

