-- ==== Sys2Proof/Machine/Energy.lean ====
section
/-! DEFINITION. The Energy Counters (09_energy_and_overage_accounting.md): energy (R149 to R151), the carry (R152),
overage (R153), wrap and overflow (R155), clearing (R156). -/

namespace Sys2Proof.Machine

/-- Whether adding this much carries the count past 4,294,967,295 (R155). -/
def Counter.wraps (c : Counter) (amount : Nat) : Bool :=
  decide (Config.word32 ≤ c.count + (c.residue + amount) / Config.wattHour)

/-- An addition with its carry (R152) and wrap (R155). -/
def Counter.add (c : Counter) (amount : Nat) : Counter where
  count := (c.count + (c.residue + amount) / Config.wattHour) % Config.word32
  residue := (c.residue + amount) % Config.wattHour
  overflow := c.overflow || c.wraps amount

/-- One second of an outlet's energy (R150). -/
def State.addOutletEnergy (stamp : Nat) (s : State) (o : OutletIx) : State :=
  let x := s.outlet o
  let s' := s.setOutlet o { x with energy := x.energy.add x.energyFigure }
  if x.energy.wraps x.energyFigure then s'.raiseAt stamp (.outletWrap o) else s'

/-- One second of a slot's energy (R151). -/
def State.addSlotEnergy (stamp : Nat) (s : State) (k : SlotIx) : State :=
  let c := s.counters k
  let s' := s.setCounters k { c with energy := c.energy.add (s.slotEnergyFigure k) }
  if c.energy.wraps (s.slotEnergyFigure k) then s'.raiseAt stamp (.slotWrap k .energy) else s'

/-- The overage attributed at a tally: floor(U × L / A), or 0 when U is 0 (R153). -/
def attribution (r : SlotRuntime) : Nat := if r.uncovered = 0 then 0 else r.uncovered * r.localDraw / r.aggregate

/-- The attribution of a slot's overage (R153). -/
def State.addOverage (stamp : Nat) (s : State) (k : SlotIx) : State :=
  let c := s.counters k
  if (s.slot k).state = .uncontracted then s.setCounters k { c with lastAttributed := 0 }
  else
    let share := attribution (s.slot k)
    let s' := s.setCounters k { c with overage := c.overage.add share, lastAttributed := share }
    if c.overage.wraps share then s'.raiseAt stamp (.slotWrap k .overage) else s'

/-- The ECT's work for one slot; free slots are not worked (R149). -/
def State.accountSlot (stamp : Nat) (s : State) (k : SlotIx) : State :=
  if s.inUse k then (s.addSlotEnergy stamp k).addOverage stamp k else s

/-- ECT_TALLY_COMPLETION (R149): the oldest completion is taken; the outlets are worked, then the slots. -/
def execEctTallyCompletion (s : State) : Host.Outcome State Fault Refusal :=
  unlessHeld s fun s =>
    match s.ect.tallies with
    | [] => s
    | n :: rest =>
      let s := { s with ect := { s.ect with tallies := rest } }
      allSlots.foldl (State.accountSlot n) (allOutlets.foldl (State.addOutletEnergy n) s)

/-- Clear an outlet's energy counter (R156). -/
def Outlet.cleared (x : Outlet) : Outlet := { x with energy := Counter.zero }

/-- Clear every counter (R156). -/
def State.clearAll (s : State) : State :=
  { s with
    outlets := mapVec Outlet.cleared s.outlets
    ect := { s.ect with slots := Vector.replicate 16 SlotCounters.zero } }

end Sys2Proof.Machine
end

