-- ==== Sys2Proof/Machine/Operands.lean ====
section
/-! DEFINITION. The parameters of the port commands as R180 lays them out, each with the ranges its rule gives; `none`
where a parameter lies outside its range (BAD_ARGUMENT, R160 check 4). -/

namespace Sys2Proof.Machine

/-- Parameter byte `i` of a record. -/
def paramByte (r : Record) (i : Nat) : Nat := (r.params.getD i 0).toNat

/-- A parameter of `w` bytes from byte `i` on. -/
def paramNum (r : Record) (i w : Nat) : Nat := bytesNat ((r.params.drop i).take w)

/-- An outlet index 0..47. -/
def outletIndex (n : Nat) : Option OutletIx := if h : n < 48 then some ⟨n, h⟩ else none

/-- A slot number 0..15. -/
def slotIndex (n : Nat) : Option SlotIx := if h : n < 16 then some ⟨n, h⟩ else none

/-- A branch number 0..5. -/
def branchIndex (n : Nat) : Option BranchIx := if h : n < 6 then some ⟨n, h⟩ else none

/-- A fixed entry's number 1..8. -/
def fixedIndex (n : Nat) : Option FixedIx :=
  if h : 1 ≤ n ∧ n ≤ 8 then some ⟨n - 1, by omega⟩ else none

/-- A cursor index 0..135. -/
def cursorIndex (n : Nat) : Option (Fin 136) := if h : n < 136 then some ⟨n, h⟩ else none

/-- A band 0..3. -/
def bandIndex (n : Nat) : Option Band := if h : n < 4 then some ⟨n, h⟩ else none

/-- A slot byte: 0..15, or 255 for absent; anything else is out of range (R180). -/
def optSlot (n : Nat) : Option (Option SlotIx) :=
  if n = 255 then some none else (slotIndex n).map some

/-- A flag coded 0 or 1 (R180). -/
def flagParam : Nat → Option Bool
  | 0 => some false
  | 1 => some true
  | _ => none

/-- A count mode byte (R180). -/
def modeParam : Nat → Option CountMode
  | 0 => some .real
  | 1 => some .apparent
  | _ => none

/-- A class byte (R180). -/
def classParam : Nat → Option OutletClass
  | 0 => some .contracted
  | 1 => some .billed
  | 2 => some .exempt
  | _ => none

/-- LOAD STATION's parameters (R4, R162, R180). -/
def stationParams (r : Record) : Option Station :=
  match flagParam (paramByte r 5), bandIndex (paramByte r 6) with
  | some auto, some band =>
    if paramByte r 0 ≤ 63 ∧ 1 ≤ paramByte r 1 ∧ paramByte r 1 ≤ 8 ∧ 1 ≤ paramByte r 2 ∧ paramByte r 2 ≤ 15 ∧
        paramByte r 3 ≤ 15 ∧ paramByte r 7 ∈ [1, 2, 4, 8, 16, 32] ∧ paramNum r 8 3 < 2 ^ 18 then
      some {
        id := paramByte r 0
        exchange := paramByte r 1
        settleTallies := paramByte r 2
        settleSweeps := paramByte r 3
        staggerGap := paramByte r 4
        autoBand := auto
        manualBand := band
        attnThreshold := paramByte r 7
        kindMask := BitVec.ofNat 18 (paramNum r 8 3) }
    else none
  | _, _ => none

/-- LOAD TENANT's parameters (R1, R2, R180). Every field's range is checked also when the ID is 0, which frees the slot
(R2; log entry 13). -/
def tenantParams (r : Record) : Option (SlotIx × Tenant) :=
  match slotIndex (paramByte r 0), modeParam (paramByte r 6) with
  | some k, some mode =>
    if paramNum r 1 2 ≤ 4095 ∧ 50 ≤ paramByte r 8 ∧ paramByte r 8 ≤ 100 ∧ 1 ≤ paramByte r 9 ∧ paramByte r 9 ≤ 60 then
      some (k,
        if paramNum r 1 2 = 0 then Tenant.free
        else {
          tenantId := some (paramNum r 1 2)
          contractCode := paramNum r 3 2
          burst := paramByte r 5
          mode := mode
          allowance := paramByte r 7
          restorePercent := paramByte r 8
          restoreHold := paramByte r 9 })
    else none
  | _, _ => none

/-- What LOAD OUTLET writes (R5). -/
structure OutletParams where
  outlet : OutletIx
  slot : Option SlotIx
  cls : OutletClass
  rank : Fin 16
deriving DecidableEq, Repr

/-- LOAD OUTLET's parameters (R5, R180): an absent slot forces class EXEMPT. -/
def outletParams (r : Record) : Option OutletParams :=
  match outletIndex (paramByte r 0), optSlot (paramByte r 1), classParam (paramByte r 2) with
  | some o, some slot, some cls =>
    if h : paramByte r 3 < 16 then
      some {
        outlet := o
        slot := slot
        cls := if slot.isNone then .exempt else cls
        rank := ⟨paramByte r 3, h⟩ }
    else none
  | _, _, _ => none

/-- What LOAD CALIBRATION writes (R5). -/
structure CalibrationParams where
  outlet : OutletIx
  gains : Vector Nat 4
  offset : Int
deriving DecidableEq, Repr

/-- LOAD CALIBRATION's parameters (R5, R180). -/
def calibrationParams (r : Record) : Option CalibrationParams :=
  match outletIndex (paramByte r 0) with
  | some o =>
    if -512 ≤ int16 (paramNum r 9 2) ∧ int16 (paramNum r 9 2) ≤ 511 then
      some {
        outlet := o
        gains := #v[paramNum r 1 2, paramNum r 3 2, paramNum r 5 2, paramNum r 7 2]
        offset := int16 (paramNum r 9 2) }
    else none
  | none => none

/-- What LOAD BRANCH writes (R18). -/
structure BranchParams where
  branch : BranchIx
  limit : Nat
  tripDelay : Nat
  restorePercent : Nat
  restoreHold : Nat
deriving DecidableEq, Repr

/-- LOAD BRANCH's parameters (R18, R180). -/
def branchParams (r : Record) : Option BranchParams :=
  match branchIndex (paramByte r 0) with
  | some b =>
    if 1 ≤ paramNum r 1 2 ∧ paramNum r 1 2 ≤ 32000 ∧ 1 ≤ paramByte r 3 ∧ paramByte r 3 ≤ 15 ∧
        50 ≤ paramByte r 4 ∧ paramByte r 4 ≤ 95 ∧ 10 ≤ paramByte r 5 ∧ paramByte r 5 ≤ 250 then
      some {
        branch := b
        limit := paramNum r 1 2
        tripDelay := paramByte r 3
        restorePercent := paramByte r 4
        restoreHold := paramByte r 5 }
    else none
  | none => none

/-- LOAD FIXED's parameters (R83, R180): the entry, and what it becomes. -/
def fixedParams (r : Record) : Option (FixedIx × Option FixedEntry) :=
  match fixedIndex (paramByte r 0), optSlot (paramByte r 1) with
  | some n, some slot =>
    if paramByte r 5 ≤ 63 then
      some (n, slot.map fun k => {
        slot := k
        contribution := paramNum r 2 3
        covers := if paramByte r 5 = 0 then none else some (paramByte r 5) })
    else none
  | _, _ => none

/-- What CLEAR COUNTERS names (R156, R171). -/
inductive ClearTarget where
  | outlet (o : OutletIx)
  | slot (k : SlotIx)
  | all
deriving DecidableEq, Repr

/-- CLEAR COUNTERS' parameters (R171, R180): 1 OUTLET, 2 SLOT, 3 ALL, whose index is ignored. -/
def clearParams (r : Record) : Option ClearTarget :=
  match paramByte r 0 with
  | 1 => (outletIndex (paramByte r 1)).map .outlet
  | 2 => (slotIndex (paramByte r 1)).map .slot
  | 3 => some .all
  | _ => none

end Sys2Proof.Machine
end

