-- ==== Sys2Proof/Machine/Flags.lean ====
section
/-! DEFINITION. What is computed from the state and not stored: the outputs and the figures the reads report. -/

namespace Sys2Proof.Machine

/-- The ATTN output (R175, R167): asserted while the count is at or above the threshold, released while the reset pin is
held. -/
def State.attn (s : State) : Bool :=
  !s.resetHeld && decide (s.station.attnThreshold ≤ s.nq.queue.length)

/-- The table occupancy (R82). -/
def State.occupancy (s : State) : Nat := (allPlaces.filter fun i => (s.entry i).isSome).length

/-- An outlet's coil drive output toward a position, one of its two (R138, R147): the pulse of the action in flight in the
direction of its target, or a pulse left running by a RESTART in its direction. -/
def State.coilDriven (s : State) (o : OutletIx) (p : Position) : Bool :=
  (s.rsq.inFlight.any fun f => f.action.outlet == o && f.pulse.isSome && f.action.kind.target == p) ||
    (s.outlet o).residualPulse.any fun q => q.toward == p

/-- The bytes of the frame this station has on the line (R72, R177). -/
def State.lineBytes (s : State) : Option (List Byte) :=
  s.rlc.onLine.map fun f => frameBytes s.station.id f.content

/-- The settle timer as READ TENANT reports it: ms left, or 0 when stopped (R100). -/
def CurSlot.settleMs (c : CurSlot) : Nat :=
  match c.settle with
  | some n => msLeft n
  | none => 0

end Sys2Proof.Machine
end

