-- ==== Sys2Proof/Machine/Replies.lean ====
section
/-! DEFINITION. The reply data of the reads, each item in the order its rule lists it and coded by R181, and the notice
record (R182). Log entries 14 and 15 name what R181 leaves to inference. -/

namespace Sys2Proof.Machine

/-- READ STATUS (R168). -/
def State.statusData (s : State) : List Byte :=
  [s.mpt.phase.code, s.rlc.link.code] ++ natBytes 4 s.tly.count ++ natBytes 2 s.rlc.rxErrors ++
    natBytes 1 s.rlc.failures ++ natBytes 1 s.nq.queue.length ++ [flagByte s.nq.lost] ++ natBytes 1 s.occupancy ++
    natBytes 1 s.osu.band.val

/-- A counter: count, residue, overflow flag (R157). -/
def Counter.bytes (c : Counter) : List Byte := natBytes 4 c.count ++ natBytes 2 c.residue ++ [flagByte c.overflow]

/-- The slot runtime record in the order of R58. -/
def SlotRuntime.bytes (r : SlotRuntime) : List Byte :=
  [r.state.code] ++ natBytes 3 r.localDraw ++ natBytes 4 r.aggregate ++ natBytes 3 r.contract ++
    natBytes 4 r.allowance ++ natBytes 4 r.credit ++ natBytes 4 r.uncovered ++ natBytes 4 r.lastTally

/-- READ TENANT (R60, R100, R157). A free slot's tenant ID reads 0 (log entry 14). -/
def State.tenantData (s : State) (k : SlotIx) : List Byte :=
  (s.slot k).bytes ++ natBytes 2 (s.tenant k).contractCode ++ natBytes 2 ((s.tenant k).tenantId.getD 0) ++
    natBytes 2 (s.curSlot k).settleMs ++ natBytes 1 (s.curSlot k).hold ++ [flagByte (s.curSlot k).uncurtailable] ++
    (s.counters k).energy.bytes ++ (s.counters k).overage.bytes ++ natBytes 3 (s.counters k).lastAttributed

/-- A slot number as an optional item. -/
def slotBytes (k : Option SlotIx) : List Byte := optBytes 1 (fun k => natBytes 1 k.val) k

/-- P, S and I. -/
def Draw.bytes (d : Draw) : List Byte := natBytes 2 d.p ++ natBytes 2 d.s ++ natBytes 2 d.i

/-- A pending action: kind, origin, lane, tenant slot, queued or in flight (R132). -/
def Pending.bytes (p : Pending) : List Byte :=
  [p.action.kind.code, p.action.origin.code, p.action.lane.code] ++ slotBytes p.action.slot ++ [flagByte p.inFlight]

/-- The reading in the order of R30. -/
def Reading.bytes (r : Reading) : List Byte :=
  r.draw.bytes ++ [r.status.code, flagByte r.stale] ++ natBytes 1 r.misses

/-- READ OUTLET (R169). -/
def State.outletData (s : State) (o : OutletIx) : List Byte :=
  let x := s.outlet o
  slotBytes x.slot ++ [x.cls.code] ++ natBytes 1 x.rank.val ++ x.gains.toList.flatMap (natBytes 2) ++
    int16Bytes x.offset ++ [x.commanded.code, x.reason.code] ++ optBytes 6 Draw.bytes x.remembered ++
    [x.feedback.code, x.actuator.code] ++ optBytes 6 Pending.bytes (s.pendingFor o) ++ x.reading.bytes ++
    natBytes 1 x.countdown ++ optBytes 1 (fun p => [directionCode p]) x.direction ++ x.energy.bytes

/-- READ BRANCH (R123). -/
def State.branchData (s : State) (b : BranchIx) : List Byte :=
  let x := s.branch b
  natBytes 2 x.limit ++ natBytes 1 x.tripDelay ++ natBytes 1 x.restorePercent ++ natBytes 1 x.restoreHold ++
    [x.state.code] ++ natBytes 3 x.current ++ natBytes 1 x.overCount ++ natBytes 1 x.holdCount ++
    optBytes 1 (fun o => natBytes 1 o.val) x.tripped ++ [flagByte x.unprotectable] ++
    natBytes 1 (s.branchShedCount b)

/-- A candidate with its present flag, rank and draw (R97). -/
def candidateItem (c : Option Candidate) : List Byte :=
  optBytes 3 (fun c => natBytes 1 c.rank ++ natBytes 2 c.draw) c

/-- A pending adjustment: direction, draw, ms left (R97). -/
def Adjustment.bytes (a : Adjustment) : List Byte :=
  [a.direction.code] ++ natBytes 2 a.draw ++ natBytes 2 (msLeft a.left)

/-- A dynamic entry (R97). -/
def DynEntry.bytes (e : DynEntry) : List Byte :=
  natBytes 1 e.slot.val ++ natBytes 1 e.station ++ natBytes 3 e.contribution ++ natBytes 2 e.code ++ [e.state.code] ++
    candidateItem e.shed ++ candidateItem e.restore ++ natBytes 1 e.age ++ natBytes 1 e.stamp ++
    [flagByte e.mismatch] ++ optBytes 5 Adjustment.bytes e.adjustment

/-- A fixed entry with its number (R97). -/
def FixedEntry.bytes (n : Nat) (e : FixedEntry) : List Byte :=
  natBytes 1 n ++ natBytes 1 e.slot.val ++ natBytes 3 e.contribution ++ optBytes 1 (natBytes 1) e.covers

/-- What stands at a cursor index (R96, R181): the kind byte, then the entry's items. -/
def State.cursorItem (s : State) (i : Fin 136) : List Byte :=
  if h : i.val < 128 then
    match s.entry ⟨i.val, h⟩ with
    | some e => 1 :: e.bytes
    | none => [0]
  else
    match s.fixedEntry ⟨i.val - 128, by omega⟩ with
    | some e => 2 :: e.bytes (i.val - 127)
    | none => [0]

/-- READ CONTRIBUTION (R97, R181): the index read, then what stands there. -/
def State.contributionData (s : State) : List Byte := natBytes 1 s.mpt.cursor.val ++ s.cursorItem s.mpt.cursor

/-- The fields of a notice's kind, from offset 5 of its record (R182). -/
def NoticeBody.fields : NoticeBody → List Byte
  | .tenantState k old new => natBytes 1 k.val ++ [old.code, new.code]
  | .shedElected k o rank draw => natBytes 1 k.val ++ natBytes 1 o.val ++ natBytes 1 rank ++ natBytes 2 draw
  | .restoreElected k o rank draw => natBytes 1 k.val ++ natBytes 1 o.val ++ natBytes 1 rank ++ natBytes 2 draw
  | .uncurtailable k => natBytes 1 k.val
  | .contractMismatch k station code => natBytes 1 k.val ++ natBytes 1 station ++ natBytes 2 code
  | .peerExpired k station => natBytes 1 k.val ++ natBytes 1 station
  | .tableFull k station => natBytes 1 k.val ++ natBytes 1 station
  | .outletStale o => natBytes 1 o.val
  | .outletFresh o => natBytes 1 o.val
  | .actionDone o kind origin status => natBytes 1 o.val ++ [kind.code, origin.code, status.code]
  | .outletFault o cause => natBytes 1 o.val ++ [cause.code]
  | .branchTrip b o => natBytes 1 b.val ++ natBytes 1 o.val
  | .branchUnprotectable b => natBytes 1 b.val
  | .duplicateStation => []
  | .linkDown => []
  | .linkUp => []
  | .outletWrap o => [1] ++ natBytes 1 o.val ++ [CounterKind.energy.code]
  | .slotWrap k counter => [2] ++ natBytes 1 k.val ++ [counter.code]
  | .tempSensorFail => []

/-- The twelve-byte notice record (R182). -/
def Notice.bytes (n : Notice) : List Byte :=
  (natBytes 1 n.body.number ++ natBytes 4 n.stamp ++ n.body.fields ++ List.replicate 7 0).take 12

/-- READ NOTICES (R174, R181): the number returned, the records, the count left. -/
def Nq.noticesData (q : Nq) (n : Nat) : List Byte :=
  natBytes 1 (q.queue.take n).length ++ (q.queue.take n).flatMap Notice.bytes ++ natBytes 1 (q.queue.drop n).length

end Sys2Proof.Machine
end

