-- ==== Sys2Proof/Machine/ManagementPort.lean ====
section
/-! DEFINITION. The port commands other than START and RESTART (10_management_port_and_start_up.md), and the transactions
that carry none. Each follows the order of checks of R160. -/

namespace Sys2Proof.Machine

/-! ### Transactions without a command -/

/-- NO_COMMAND_TRANSACTION (R159): nothing is executed; the returned frame is clocked out. -/
def execNoCommandTransaction (bytes : List Byte) (s : State) : Host.Outcome State Fault Refusal :=
  unlessHeld s fun s => s.endTransaction bytes.length

/-- CUT_SHORT_RECORD (R159): not executed, answered BAD_ARGUMENT whatever the code. -/
def execCutShortRecord (code _len : Byte) (given : List Byte) (s : State) : Host.Outcome State Fault Refusal :=
  unlessHeld s fun s => (s.endTransaction (2 + given.length)).refuse code .badArgument

/-- UNKNOWN_COMMAND_CODE (R160 check 1). -/
def execUnknownCommandCode (code : Byte) (r : Record) (s : State) : Host.Outcome State Fault Refusal :=
  unlessHeld s fun s =>
    (s.endTransaction (2 + r.params.length + r.trailing.length)).refuse code .unknownCommand

/-! ### Reads -/

/-- READ STATUS, code 1 (R168): the lost flag is reported as it stood, then cleared. -/
def execReadStatus (r : Record) (s : State) : Host.Outcome State Fault Refusal :=
  portCommand 1 0 r s fun s => { s.reply 1 .ok s.statusData with nq := { s.nq with lost := false } }

/-- READ TENANT, code 2 (R60, R169). -/
def execReadTenant (r : Record) (s : State) : Host.Outcome State Fault Refusal :=
  portCommand 2 1 r s fun s =>
    match slotIndex (paramByte r 0) with
    | some k => s.reply 2 .ok (s.tenantData k)
    | none => s.refuse 2 .badArgument

/-- READ OUTLET, code 3 (R169). -/
def execReadOutlet (r : Record) (s : State) : Host.Outcome State Fault Refusal :=
  portCommand 3 1 r s fun s =>
    match outletIndex (paramByte r 0) with
    | some o => s.reply 3 .ok (s.outletData o)
    | none => s.refuse 3 .badArgument

/-- READ BRANCH, code 4 (R123, R169). -/
def execReadBranch (r : Record) (s : State) : Host.Outcome State Fault Refusal :=
  portCommand 4 1 r s fun s =>
    match branchIndex (paramByte r 0) with
    | some b => s.reply 4 .ok (s.branchData b)
    | none => s.refuse 4 .badArgument

/-- The cursor after a read: one on, from 135 to 0 (R96). -/
def nextCursor (i : Fin 136) : Fin 136 := if h : i.val + 1 < 136 then ⟨i.val + 1, h⟩ else 0

/-- READ CONTRIBUTION, code 5 (R96, R97). -/
def execReadContribution (r : Record) (s : State) : Host.Outcome State Fault Refusal :=
  portCommand 5 0 r s fun s =>
    let s' := s.reply 5 .ok s.contributionData
    { s' with mpt := { s'.mpt with cursor := nextCursor s.mpt.cursor } }

/-- SET CURSOR, code 6 (R96). -/
def execSetCursor (r : Record) (s : State) : Host.Outcome State Fault Refusal :=
  portCommand 6 1 r s fun s =>
    match cursorIndex (paramByte r 0) with
    | some i => { s with mpt := { s.mpt with cursor := i } }.reply 6 .ok []
    | none => s.refuse 6 .badArgument

/-- READ NOTICES, code 7 (R174). -/
def execReadNotices (r : Record) (s : State) : Host.Outcome State Fault Refusal :=
  portCommand 7 1 r s fun s =>
    let n := paramByte r 0
    if 1 ≤ n ∧ n ≤ 8 then
      { s.reply 7 .ok (s.nq.noticesData n) with nq := { s.nq with queue := s.nq.queue.drop n } }
    else s.refuse 7 .badArgument

/-! ### Loads -/

/-- A LOAD is taken in CONFIG and refused WRONG_STATE elsewhere (R162); a parameter out of range is refused BAD_ARGUMENT
(`none`); otherwise the record is written and the reply is OK. -/
def State.load {α : Type} (s : State) (code : Byte) (params : Option α) (write : State → α → State) : State :=
  if s.mpt.phase ≠ .config then s.refuse code .wrongState
  else
    match params with
    | some p => (write s p).reply code .ok []
    | none => s.refuse code .badArgument

/-- LOAD STATION, code 16 (R4, R162). -/
def execLoadStation (r : Record) (s : State) : Host.Outcome State Fault Refusal :=
  portCommand 16 11 r s fun s => s.load 16 (stationParams r) fun s p => { s with station := p }

/-- LOAD TENANT, code 17 (R1, R2, R162). -/
def execLoadTenant (r : Record) (s : State) : Host.Outcome State Fault Refusal :=
  portCommand 17 10 r s fun s =>
    s.load 17 (tenantParams r) fun s p => { s with tenants := s.tenants.set p.1.val p.2 }

/-- LOAD OUTLET, code 18 (R5, R162). -/
def execLoadOutlet (r : Record) (s : State) : Host.Outcome State Fault Refusal :=
  portCommand 18 4 r s fun s =>
    s.load 18 (outletParams r) fun s p =>
      s.setOutlet p.outlet { s.outlet p.outlet with slot := p.slot, cls := p.cls, rank := p.rank }

/-- LOAD CALIBRATION, code 19 (R5, R162). -/
def execLoadCalibration (r : Record) (s : State) : Host.Outcome State Fault Refusal :=
  portCommand 19 11 r s fun s =>
    s.load 19 (calibrationParams r) fun s p =>
      s.setOutlet p.outlet { s.outlet p.outlet with gains := p.gains, offset := p.offset }

/-- LOAD BRANCH, code 20 (R18, R162). -/
def execLoadBranch (r : Record) (s : State) : Host.Outcome State Fault Refusal :=
  portCommand 20 6 r s fun s =>
    s.load 20 (branchParams r) fun s p =>
      s.setBranch p.branch
        { s.branch p.branch with
          limit := p.limit, tripDelay := p.tripDelay, restorePercent := p.restorePercent
          restoreHold := p.restoreHold }

/-- LOAD FIXED, code 21 (R83, R162). -/
def execLoadFixed (r : Record) (s : State) : Host.Outcome State Fault Refusal :=
  portCommand 21 6 r s fun s =>
    s.load 21 (fixedParams r) fun s p => { s with ctb := { s.ctb with fixed := s.ctb.fixed.set p.1.val p.2 } }

/-! ### Commands in RUN -/

/-- An outlet command (R170): taken in RUN, then the index, then `work`. -/
def State.outletCommand (s : State) (code : Byte) (index : Nat) (work : State → OutletIx → State) : State :=
  if s.mpt.phase ≠ .run then s.refuse code .wrongState
  else
    match outletIndex index with
    | some o => work s o
    | none => s.refuse code .badArgument

/-- The action a port command requests (R170). -/
def State.manualAction (s : State) (o : OutletIx) (kind : ActionKind) : Action :=
  { outlet := o, kind := kind, origin := .manual, slot := (s.outlet o).slot }

/-- The record of an outlet that OUTLET OPEN takes (R15): the remembered draw is kept if present, else stored. -/
def Outlet.manuallyOpened (x : Outlet) (counted : Draw) : Outlet := x.opened .manual (x.remembered.getD counted)

/-- OUTLET OPEN of an ENABLED outlet by its standing (R15). -/
def State.openByStanding (s : State) (o : OutletIx) : State :=
  let x := s.outlet o
  match x.reason with
  | .none =>
    let a := s.manualAction o .openRelay
    match s.requestOutcome a with
    | .accepted =>
      (((s.enqueue a).setOutlet o (x.manuallyOpened (s.counted o))).choose).reply 48 .ok []
    | .merged => (s.setOutlet o (x.manuallyOpened (s.counted o))).reply 48 .ok []
    | .busy => s.refuse 48 .busy
    | .queueFull => s.refuse 48 .queueFull
  | .tenant => (s.setOutlet o { x with reason := .manual }).reply 48 .ok []
  | .branch => (s.setOutlet o { x with reason := .manual }).reply 48 .ok []
  | .manual => s.reply 48 .ok []

/-- OUTLET OPEN, code 48 (R15, R170). -/
def execOutletOpen (r : Record) (pins : Contacts) (s : State) : Host.Outcome State Fault Refusal :=
  portCommand 48 1 r s fun s =>
    (s.withPins pins).outletCommand 48 (paramByte r 0) fun s o =>
      if (s.outlet o).actuator = .faulted then s.refuse 48 .wrongState else s.openByStanding o

/-- OUTLET CLOSE of a manually open ENABLED outlet (R16). -/
def State.closeManual (s : State) (o : OutletIx) : State :=
  let a := s.manualAction o .closeRelay
  match s.requestOutcome a with
  | .accepted => (((s.enqueue a).setOutlet o (s.outlet o).restored).choose).reply 49 .ok []
  | .merged => (s.setOutlet o (s.outlet o).restored).reply 49 .ok []
  | .busy => s.refuse 49 .busy
  | .queueFull => s.refuse 49 .queueFull

/-- OUTLET CLOSE, code 49 (R16, R170). -/
def execOutletClose (r : Record) (pins : Contacts) (s : State) : Host.Outcome State Fault Refusal :=
  portCommand 49 1 r s fun s =>
    (s.withPins pins).outletCommand 49 (paramByte r 0) fun s o =>
      if (s.outlet o).actuator = .faulted ∨ (s.outlet o).reason ≠ .manual then s.refuse 49 .wrongState
      else s.closeManual o

/-- The actions queued for an outlet, urgent lane first (R144, R141). -/
def Rsq.allQueuedFor (q : Rsq) (o : OutletIx) : List Action := (q.urgent ++ q.standard).filter fun a => a.outlet == o

/-- An accepted REARM (R144): any OPEN or CLOSE queued for the outlet is retired OUTLET_FAULTED, the REARM is appended, and
the choice is made. -/
def State.acceptRearm (s : State) (o : OutletIx) : State :=
  let a := s.manualAction o .rearm
  let flushed := (s.rsq.allQueuedFor o).foldl (State.retireFaulted s.tly.count) { s with rsq := s.rsq.remove o }
  ({ flushed with rsq := flushed.rsq.append a }.choose).reply 50 .ok []

/-- REARM of a FAULTED outlet (R144). -/
def State.rearmFaulted (s : State) (o : OutletIx) : State :=
  match s.pendingFor o with
  | none => if s.rsq.hasRoom .standard none then s.acceptRearm o else s.refuse 50 .queueFull
  | some p =>
    if p.action.kind = .rearm then s.reply 50 .ok []
    else if s.rsq.hasRoom .standard (some p.action) then s.acceptRearm o
    else s.refuse 50 .queueFull

/-- REARM, code 50 (R144, R170). -/
def execRearm (r : Record) (pins : Contacts) (s : State) : Host.Outcome State Fault Refusal :=
  portCommand 50 1 r s fun s =>
    (s.withPins pins).outletCommand 50 (paramByte r 0) fun s o =>
      if (s.outlet o).actuator = .enabled then s.refuse 50 .wrongState else s.rearmFaulted o

/-- SET BAND, code 51 (R171, R23): the manual band; the band of a running sweep stays. -/
def execSetBand (r : Record) (s : State) : Host.Outcome State Fault Refusal :=
  portCommand 51 1 r s fun s =>
    if s.mpt.phase ≠ .run ∨ s.station.autoBand = true then s.refuse 51 .wrongState
    else
      match bandIndex (paramByte r 0) with
      | some b => { s with station := { s.station with manualBand := b } }.reply 51 .ok []
      | none => s.refuse 51 .badArgument

/-- Zero the counters a target names (R156). -/
def State.clear (s : State) : ClearTarget → State
  | .outlet o => s.setOutlet o (s.outlet o).cleared
  | .slot k => s.setCounters k SlotCounters.zero
  | .all => s.clearAll

/-- CLEAR COUNTERS, code 52 (R156, R171). -/
def execClearCounters (r : Record) (s : State) : Host.Outcome State Fault Refusal :=
  portCommand 52 2 r s fun s =>
    if s.mpt.phase ≠ .run then s.refuse 52 .wrongState
    else
      match clearParams r with
      | some t => (s.clear t).reply 52 .ok []
      | none => s.refuse 52 .badArgument

end Sys2Proof.Machine
end

