-- ==== Sys2Proof/Machine/Metering.lean ====
section
/-! DEFINITION. The Outlet Scan Unit (02_metering_and_calibration.md): sweeps (R19, R24, R36), the temperature band (R20
to R23), calibration (R27 to R29), staleness (R31, R32), settle sweeps (R33, R34), warm-up (R35). -/

namespace Sys2Proof.Machine

/-! ### The band -/

/-- A temperature the sensor may return (R20): −40.0 °C..125.0 °C, in tenths. -/
def validTemperature (t : Int) : Bool := decide (-400 ≤ t ∧ t ≤ 1250)

/-- The plain band of t, in tenths of a degree (R21). -/
def plainBand (t : Int) : Band :=
  if t < 150 then 0 else if t < 350 then 1 else if t ≤ 500 then 2 else 3

/-- Whether t lies in the stay range of a band (R21). -/
def staysIn (b : Band) (t : Int) : Bool :=
  match b with
  | 0 => decide (t < 170)
  | 1 => decide (130 ≤ t ∧ t < 370)
  | 2 => decide (330 ≤ t ∧ t ≤ 520)
  | 3 => decide (480 < t)

/-- The band after a successful read (R21). -/
def nextBand (b : Band) (t : Int) : Band := if staysIn b t then b else plainBand t

/-! ### Calibration -/

/-- A count scaled by a gain, rounded to the nearest with halves upward (R27, R28). Int division by a positive number is
floor division. -/
def scaled (raw : Int) (gain : Nat) : Int := (raw * gain + 16384) / 32768

/-- A value clamped to 0..hi. -/
def clampTo (hi : Nat) (v : Int) : Nat := min v.toNat hi

/-- R27 to R29: the reading's values and status from a reply, by the gain of the sweep's band and the offset. -/
def calibrate (x : Outlet) (band : Band) (r : FrontEndReply) : Draw × ReadingStatus :=
  let gain := x.gains[band.val]
  let p := scaled r.pRaw.toInt gain + x.offset
  let s := scaled r.sRaw.toNat gain + x.offset
  let i := scaled r.iRaw.toNat gain
  let pClamped := clampTo Config.maxPower p
  let sClamped := clampTo Config.maxPower s
  (⟨pClamped, max sClamped pClamped, clampTo Config.maxCurrent i⟩,
    if r.status = .clipped ∨ (Config.maxPower : Int) < p ∨ (Config.maxPower : Int) < s ∨
        (Config.maxCurrent : Int) < i then .clipped
    else .ok)

/-! ### Disposal of an outcome -/

/-- The outcome of a visit (R25): good counts, or NO_RESPONSE. -/
def goodReply (r : FrontEndReply) : Option FrontEndReply :=
  match r.status with
  | .ok => some r
  | .clipped => some r
  | .other => none

/-- The first part of the disposal for a good outcome (R32): fresh, with a notice if the outlet was stale. -/
def State.answered (s : State) (o : OutletIx) : State :=
  let x := s.outlet o
  let s' := s.setOutlet o { x with reading := { x.reading with misses := 0, stale := false } }
  if x.reading.stale then s'.raise (.outletFresh o) else s'

/-- The first part of the disposal for NO_RESPONSE (R31). -/
def State.missed (s : State) (o : OutletIx) : State :=
  let x := s.outlet o
  if x.reading.misses + 1 = Config.staleMisses then
    (s.setOutlet o { x with reading := { x.reading with misses := Config.staleMisses, stale := true } }).raise
      (.outletStale o)
  else if x.reading.misses < Config.staleMisses then
    s.setOutlet o { x with reading := { x.reading with misses := x.reading.misses + 1 } }
  else s

/-- The second part (R26): in RUN, with the countdown at 0, the counts replace the reading's P, S, I and status. -/
def State.takeCounts (s : State) (o : OutletIx) (r : FrontEndReply) : State :=
  let x := s.outlet o
  if s.mpt.phase = .run ∧ x.countdown = 0 then
    let c := calibrate x s.osu.band r
    s.setOutlet o { x with reading := { x.reading with draw := c.1, status := c.2 } }
  else s

/-- The settle countdown falls from 1 to 0 (R34): a closing draw is cleared when the direction is CLOSE and the reason is
NONE. -/
def Outlet.settled (x : Outlet) : Outlet :=
  if x.direction = some .closed ∧ x.reason = .none then { x with countdown := 0, remembered := none }
  else { x with countdown := 0 }

/-- After the disposal a countdown above 0 falls by 1 (R33, R34). -/
def Outlet.runDown (x : Outlet) : Outlet :=
  if x.countdown = 1 then x.settled else { x with countdown := x.countdown - 1 }

/-- The disposal of a visit's outcome (R26, R33). The counts are taken or not by the countdown as it stood when the outcome
came (R26, R33), so the visit whose end brings the countdown to 0 takes none, and case 4 counts the held reading until the
next visit, where R42 speaks of the fresh reading (the model's choice, log entry 31). -/
def State.dispose (s : State) (o : OutletIx) (outcome : Option FrontEndReply) : State :=
  let s :=
    match outcome with
    | some r => (s.answered o).takeCounts o r
    | none => s.missed o
  s.setOutlet o (s.outlet o).runDown

/-! ### Sweeps -/

/-- The scan counter is set to 0 and outlet 0 is requested (R24). -/
def State.firstRequest (s : State) : State :=
  { s with osu := { s.osu with scan := 0, stage := .requesting Config.requestTicks } }

/-- A sweep starts (R19, R20): the timer starts, the owed flag clears, and the band is settled, at once when
auto-retrieval is off and by a sensor read when it is on. -/
def State.startSweep (s : State) : State :=
  let osu := { s.osu with sweepTimer := some Config.sweepTicks, owed := false }
  if s.station.autoBand then
    { s with osu := { osu with stage := .readingSensor Config.tempReadTicks } }
  else
    { s with osu := { osu with band := s.station.manualBand } }.firstRequest

/-- A completed sweep goes to the blocks that act on it (R35, R36). The eighth warm-up completion is the report that
ENTER_RUN takes (R165); the count stays at 8 from there (log entry 26). -/
def State.handSweep (s : State) : State :=
  match s.mpt.phase with
  | .config => s
  | .warmup => { s with osu := { s.osu with warmup := min (s.osu.warmup + 1) Config.warmupSweeps } }
  | .run =>
    { s with
      brm := { s.brm with sweeps := s.brm.sweeps + 1 }
      rsq := { s.rsq with sweeps := s.rsq.sweeps + 1 } }

/-- The visit of outlet 47 has ended (R36): the completion is handed on, and an owed sweep starts at once (R19). -/
def State.completeSweep (s : State) : State :=
  let s := { s with osu := { s.osu with stage := .idle } }.handSweep
  if s.osu.owed then s.startSweep else s

/-- A visit ends (R24): the next outlet is requested, or the sweep is complete. -/
def State.endVisit (s : State) : State :=
  if h : s.osu.scan.val + 1 < 48 then
    { s with osu := { s.osu with scan := ⟨s.osu.scan.val + 1, h⟩, stage := .requesting Config.requestTicks } }
  else s.completeSweep

/-- The visit of the outlet being scanned ends with an outcome. -/
def State.visit (s : State) (outcome : Option FrontEndReply) : State :=
  (s.dispose s.osu.scan outcome).endVisit

/-- The sensor read of a sweep start has failed (R20, R22). -/
def State.sensorFailed (s : State) : State :=
  if s.osu.sensorFail then s
  else { s with osu := { s.osu with sensorFail := true } }.raise .tempSensorFail

/-- The sensor read has succeeded with temperature t (R21, R22). -/
def State.sensorRead (s : State) (t : Int) : State :=
  { s with osu := { s.osu with sensorFail := false, band := nextBand s.osu.band t } }

/-- SWEEP_TIMER_EXPIRY (R19). -/
def execSweepTimerExpiry (s : State) : Host.Outcome State Fault Refusal :=
  unlessHeld s fun s =>
    match s.osu.sweepTimer with
    | none => s
    | some _ =>
      match s.osu.stage with
      | .idle => s.startSweep
      | .readingSensor _ => { s with osu := { s.osu with sweepTimer := none, owed := true } }
      | .requesting _ => { s with osu := { s.osu with sweepTimer := none, owed := true } }

/-- TEMP_READ_END (R20 to R22). -/
def execTempReadEnd (result : TempResult) (s : State) : Host.Outcome State Fault Refusal :=
  unlessHeld s fun s =>
    match s.osu.stage with
    | .readingSensor _ =>
      match result with
      | .noAcknowledge => s.sensorFailed.firstRequest
      | .temperature t => if validTemperature t then (s.sensorRead t).firstRequest else s.sensorFailed.firstRequest
    | .idle => s
    | .requesting _ => s

/-- TEMP_READ_TIMEOUT (R20, R22). -/
def execTempReadTimeout (s : State) : Host.Outcome State Fault Refusal :=
  unlessHeld s fun s =>
    match s.osu.stage with
    | .readingSensor _ => s.sensorFailed.firstRequest
    | .idle => s
    | .requesting _ => s

/-- READING_REPLY (R25, R26): a reply to the request outstanding. With none outstanding it is discarded (R25, R37). -/
def execReadingReply (r : FrontEndReply) (s : State) : Host.Outcome State Fault Refusal :=
  unlessHeld s fun s =>
    match s.osu.stage with
    | .requesting _ => s.visit (goodReply r)
    | .idle => s
    | .readingSensor _ => s

/-- READING_TIMEOUT (R25, R31). -/
def execReadingTimeout (s : State) : Host.Outcome State Fault Refusal :=
  unlessHeld s fun s =>
    match s.osu.stage with
    | .requesting _ => s.visit none
    | .idle => s
    | .readingSensor _ => s

/-- LATE_REPLY (R25): discarded. -/
def execLateReply (_r : FrontEndReply) (s : State) : Host.Outcome State Fault Refusal := .next s

/-- SETTLE_COUNTDOWN_END (R34): that part of a visit on its own, for an outlet whose countdown stands at 1 (log entry
18). -/
def execSettleCountdownEnd (o : OutletIx) (s : State) : Host.Outcome State Fault Refusal :=
  unlessHeld s fun s =>
    if (s.outlet o).countdown = 1 then s.setOutlet o (s.outlet o).settled else s

end Sys2Proof.Machine
end

