-- ==== Sys2Proof/Machine/StartUp.lean ====
section
/-! DEFINITION. Start-up and reset (10_management_port_and_start_up.md): START (R163, R164), RESTART (R166), power-on and
the reset pin (R167). -/

namespace Sys2Proof.Machine

/-! ### START -/

/-- Record kinds of a BAD_CONFIG reply (R180). -/
inductive RecordKind where
  | station | tenant | outlet | fixed
deriving DecidableEq, Repr

/-- R180: 1 STATION, 2 TENANT, 3 OUTLET, 4 FIXED. -/
def RecordKind.code : RecordKind → Byte
  | .station => 1
  | .tenant => 2
  | .outlet => 3
  | .fixed => 4

/-- Step 3 of START: the slot holds the tenant ID of a lower slot (R163). -/
def State.repeatsLower (s : State) (k : SlotIx) : Bool :=
  s.inUse k && allSlots.any fun j => decide (j < k) && s.inUse j && (s.tenant j).tenantId == (s.tenant k).tenantId

/-- Step 4 of START: the outlet names a free slot (R163). -/
def State.namesFreeSlot (s : State) (o : OutletIx) : Bool :=
  match (s.outlet o).slot with
  | some k => !s.inUse k
  | none => false

/-- Step 5 of START: the fixed entry names a free slot or covers the own station (R163). -/
def State.badFixed (s : State) (n : FixedIx) : Bool :=
  match s.fixedEntry n with
  | some e => !s.inUse e.slot || e.covers == some s.station.id
  | none => false

/-- The first check of START that fails, with the record it names (R163). -/
def State.configFault (s : State) : Option (RecordKind × Nat) :=
  if s.station.id = 0 then some (.station, 0)
  else if s.usedSlots.isEmpty then some (.tenant, 255)
  else
    match allSlots.find? s.repeatsLower with
    | some k => some (.tenant, k.val)
    | none =>
      match allOutlets.find? s.namesFreeSlot with
      | some o => some (.outlet, o.val)
      | none => (allFixed.find? s.badFixed).map fun n => (.fixed, n.val + 1)

/-- Adoption of an outlet's relay (R17, R146): at once, unless its coil is still driven by a pulse from before a RESTART. -/
def State.adoptOutlet (s : State) (o : OutletIx) : State :=
  if (s.outlet o).residualPulse.isNone then s.setOutlet o ((s.outlet o).adopt (s.sensed o)) else s

/-- The link goes to LISTEN and the ANNOUNCE is queued (R67, R77). -/
def State.announce (s : State) : State :=
  { s with rlc := { s.rlc with
      link := .listen, otherRun := s.rlc.otherRun ++ [⟨.announce s.usedSlots.length, 0⟩] } }

/-- The entry into WARMUP (R164). -/
def State.enterWarmup (s : State) : State :=
  let s := { s with mpt := { s.mpt with phase := .warmup } }
  let s := (allOutlets.foldl State.adoptOutlet s).announce
  { s with ctb := { s.ctb with timer := some s.agingTicks } }.startSweep

/-- START, code 32 (R163, R164). -/
def execStart (r : Record) (pins : Contacts) (s : State) : Host.Outcome State Fault Refusal :=
  portCommand 32 0 r s fun s =>
    if s.mpt.phase ≠ .config then s.refuse 32 .wrongState
    else
      match s.configFault with
      | some (kind, index) => s.reply 32 .badConfig [kind.code, BitVec.ofNat 8 index]
      | none => (s.withPins pins).enterWarmup.reply 32 .ok []

/-! ### Resets -/

/-- An outlet record after RESTART: the configured part kept, the runtime part at its reset values (R5, R8 to R12, R30,
R33, R148). A pulse already left running runs on (R147). -/
def Outlet.restarted (x : Outlet) : Outlet :=
  { Outlet.reset with
    slot := x.slot, cls := x.cls, rank := x.rank, gains := x.gains, offset := x.offset
    residualPulse := x.residualPulse }

/-- A branch record after RESTART: the configured fields kept (R18, R131). -/
def Branch.restarted (x : Branch) : Branch :=
  { Branch.reset with
    limit := x.limit, tripDelay := x.tripDelay, restorePercent := x.restorePercent, restoreHold := x.restoreHold }

/-- The running coil pulse of an action in flight, toward its target (R138, R147). -/
def InFlight.drive (f : InFlight) : Option CoilPulse := f.pulse.map fun n => ⟨f.action.kind.target, n⟩

/-- A running coil pulse of the action in flight is left to run to its end in its direction, unrecorded (R147). -/
def State.leavePulse (s : State) (f : Option InFlight) : State :=
  match f with
  | some f =>
    match f.drive with
    | some p => s.setOutlet f.action.outlet { s.outlet f.action.outlet with residualPulse := some p }
    | none => s
  | none => s

/-- RESTART's one step (R166): every block at its RESTART values, the configuration kept. -/
def State.restarted (s : State) : State :=
  { State.reset with
    resetHeld := s.resetHeld
    contacts := s.contacts
    dataOut := s.dataOut
    station := s.station
    tenants := s.tenants
    outlets := mapVec Outlet.restarted s.outlets
    ctb := { Ctb.reset with fixed := s.ctb.fixed }
    brm := { Brm.reset with branches := mapVec Branch.restarted s.brm.branches }
    pending := s.pending }.leavePulse s.rsq.inFlight

/-- RESTART, code 33 (R166): it has no reply of its own. -/
def execRestart (r : Record) (s : State) : Host.Outcome State Fault Refusal :=
  portCommand 33 0 r s State.restarted

/-- Every block at its power-on values (R167). The waiting commands and the levels of the input pins are no block's state
(log entry 7). -/
def State.poweredOn (s : State) (held : Bool) : State :=
  { State.reset with resetHeld := held, contacts := s.contacts, pending := s.pending }

/-- POWER_ON (R167). -/
def execPowerOn (s : State) : Host.Outcome State Fault Refusal := .next (s.poweredOn s.resetHeld)

/-- RESET_PIN_ASSERT (R167, R147, R81, R37): coil drive ends at once, the row link is released, the measurement bus and the
temperature line are left alone; ATTN is released by State.attn (log entry 6). -/
def execResetPinAssert (s : State) : Host.Outcome State Fault Refusal :=
  .next { s with
    resetHeld := true
    outlets := mapVec (fun x => { x with residualPulse := none }) s.outlets
    osu := Osu.reset
    rlc := Rlc.reset
    rsq := Rsq.reset }

/-- RESET_PIN_RELEASE (R167). -/
def execResetPinRelease (s : State) : Host.Outcome State Fault Refusal := .next (s.poweredOn false)

end Sys2Proof.Machine
end

