-- ==== Sys2Proof/Machine/Dispatch.lean ====
section
/-! DEFINITION. One arm per command: its meaning. -/

namespace Sys2Proof.Machine

def exec (i : Instr) (s : State) : Host.Outcome State Fault Refusal :=
  match i with
  | .powerOn => Sys2Proof.Machine.execPowerOn s
  | .resetPinAssert => Sys2Proof.Machine.execResetPinAssert s
  | .resetPinRelease => Sys2Proof.Machine.execResetPinRelease s
  | .noCommandTransaction bytes => Sys2Proof.Machine.execNoCommandTransaction bytes s
  | .cutShortRecord code len given => Sys2Proof.Machine.execCutShortRecord code len given s
  | .unknownCommandCode code rec => Sys2Proof.Machine.execUnknownCommandCode code rec s
  | .readStatus rec => Sys2Proof.Machine.execReadStatus rec s
  | .readTenant rec => Sys2Proof.Machine.execReadTenant rec s
  | .readOutlet rec => Sys2Proof.Machine.execReadOutlet rec s
  | .readBranch rec => Sys2Proof.Machine.execReadBranch rec s
  | .readContribution rec => Sys2Proof.Machine.execReadContribution rec s
  | .setCursor rec => Sys2Proof.Machine.execSetCursor rec s
  | .readNotices rec => Sys2Proof.Machine.execReadNotices rec s
  | .loadStation rec => Sys2Proof.Machine.execLoadStation rec s
  | .loadTenant rec => Sys2Proof.Machine.execLoadTenant rec s
  | .loadOutlet rec => Sys2Proof.Machine.execLoadOutlet rec s
  | .loadCalibration rec => Sys2Proof.Machine.execLoadCalibration rec s
  | .loadBranch rec => Sys2Proof.Machine.execLoadBranch rec s
  | .loadFixed rec => Sys2Proof.Machine.execLoadFixed rec s
  | .start rec pins => Sys2Proof.Machine.execStart rec pins s
  | .restart rec => Sys2Proof.Machine.execRestart rec s
  | .outletOpen rec pins => Sys2Proof.Machine.execOutletOpen rec pins s
  | .outletClose rec pins => Sys2Proof.Machine.execOutletClose rec pins s
  | .rearm rec pins => Sys2Proof.Machine.execRearm rec pins s
  | .setBand rec => Sys2Proof.Machine.execSetBand rec s
  | .clearCounters rec => Sys2Proof.Machine.execClearCounters rec s
  | .sweepTimerExpiry => Sys2Proof.Machine.execSweepTimerExpiry s
  | .tempReadEnd result => Sys2Proof.Machine.execTempReadEnd result s
  | .tempReadTimeout => Sys2Proof.Machine.execTempReadTimeout s
  | .readingReply reply => Sys2Proof.Machine.execReadingReply reply s
  | .readingTimeout => Sys2Proof.Machine.execReadingTimeout s
  | .lateReply reply => Sys2Proof.Machine.execLateReply reply s
  | .settleCountdownEnd outlet => Sys2Proof.Machine.execSettleCountdownEnd outlet s
  | .enterRun => Sys2Proof.Machine.execEnterRun s
  | .tallyTimerExpiry => Sys2Proof.Machine.execTallyTimerExpiry s
  | .ectTallyCompletion => Sys2Proof.Machine.execEctTallyCompletion s
  | .curTallyCompletion pins => Sys2Proof.Machine.execCurTallyCompletion pins s
  | .rlcTallyCompletion => Sys2Proof.Machine.execRlcTallyCompletion s
  | .brmSweepCompletion pins => Sys2Proof.Machine.execBrmSweepCompletion pins s
  | .mismatchCheck pins => Sys2Proof.Machine.execMismatchCheck pins s
  | .agingTimerExpiry => Sys2Proof.Machine.execAgingTimerExpiry s
  | .pendingAdjustmentExpiry place => Sys2Proof.Machine.execPendingAdjustmentExpiry place s
  | .settleTimerExpiry slot => Sys2Proof.Machine.execSettleTimerExpiry slot s
  | .retryTimerExpiry => Sys2Proof.Machine.execRetryTimerExpiry s
  | .staggerTimerExpiry pins => Sys2Proof.Machine.execStaggerTimerExpiry pins s
  | .feedbackTargetSensed pins => Sys2Proof.Machine.execFeedbackTargetSensed pins s
  | .coilPulseEnd pins => Sys2Proof.Machine.execCoilPulseEnd pins s
  | .feedbackWindowTimeout pins => Sys2Proof.Machine.execFeedbackWindowTimeout pins s
  | .pulseEndAdoption outlet pins => Sys2Proof.Machine.execPulseEndAdoption outlet pins s
  | .contendOnIdleLine => Sys2Proof.Machine.execContendOnIdleLine s
  | .arbitrationLost => Sys2Proof.Machine.execArbitrationLost s
  | .transmitSuccess => Sys2Proof.Machine.execTransmitSuccess s
  | .transmitFailure => Sys2Proof.Machine.execTransmitFailure s
  | .frameReceived frame => Sys2Proof.Machine.execFrameReceived frame s
  | .ctbNote => Sys2Proof.Machine.execCtbNote s
  | .curNote => Sys2Proof.Machine.execCurNote s

end Sys2Proof.Machine
end

