-- ==== Sys2Proof/Machine/Step.lean ====
section
/-! DEFINITION. One step: the command at the front of the queue, or, with none waiting, one tick of time. -/

namespace Sys2Proof.Machine

/-- What the part does while no command waits: 4 µs pass, unless the reset pin is held (log entries 1 and 6). -/
def State.idle (s : State) : State := if s.resetHeld then s else s.tick

/-- The command at the front is taken and executed on the state with the queue's rest; on an empty queue a tick
passes. -/
def step (s : State) : Host.Outcome State Fault Refusal :=
  match s.pending with
  | [] => .next s.idle
  | c :: rest => exec c { s with pending := rest }

/-- A transaction of the management controller, taken as one event at the release of chip select (R159): the command its
bytes carry waits behind those that came before. -/
def State.transact (s : State) (bytes : List Byte) (pins : Contacts) : State :=
  { s with pending := s.pending ++ [readTransaction bytes pins] }

/-- The command a table word spells, put at the front of the queue; the state unchanged where it spells none (log entry
29). -/
def State.withFetchWord (s : State) (nbits w : Nat) : State :=
  match decodeTableWord nbits w with
  | some c => { s with pending := c :: s.pending }
  | none => s

end Sys2Proof.Machine
end

