-- ==== Sys2Proof/Safety.lean ====
section
/-! DEFINITION. What every state of a run satisfies, in the terms the statements use. Each is a property the named rules
give the part. -/

namespace Sys2Proof.Safety

open Sys2Proof.Machine

/-- At most 63 notices are held (R172). -/
def NoticesBounded (s : State) : Prop := s.nq.queue.length ≤ 63

/-- The reason is NONE exactly when the outlet is commanded CLOSED (R8), and a shed outlet has a remembered draw (R9). -/
def OutletStands (x : Outlet) : Prop :=
  (x.commanded = .closed ↔ x.reason = .none) ∧ (x.reason ≠ .none → x.remembered.isSome = true)

/-- Every outlet's standing is one of R8's four. -/
def StandingsHold (s : State) : Prop := ∀ o : OutletIx, OutletStands (s.outlet o)

/-- A reading within the ranges of R29 and R30, stale exactly at four misses (R31, R32). -/
def ReadingInRange (r : Reading) : Prop :=
  r.draw.p ≤ 40000 ∧ r.draw.s ≤ 40000 ∧ r.draw.p ≤ r.draw.s ∧ r.draw.i ≤ 20000 ∧ r.misses ≤ 4 ∧
    (r.stale = true ↔ r.misses = 4)

/-- Every stored reading is in range (R29, R30). -/
def ReadingsInRange (s : State) : Prop := ∀ o : OutletIx, ReadingInRange (s.outlet o).reading

/-- A counter with a 32-bit count and less than one Wh of residue (R148, R152). -/
def CounterInRange (c : Counter) : Prop := c.count < 4294967296 ∧ c.residue < 36000

/-- Every counter is in range. -/
def CountersInRange (s : State) : Prop :=
  (∀ o : OutletIx, CounterInRange (s.outlet o).energy) ∧
    ∀ k : SlotIx, CounterInRange (s.counters k).energy ∧ CounterInRange (s.counters k).overage

/-- Every slot's credit lies within its allowance (R52), and its uncovered excess within its aggregate (R58). -/
def CreditsBounded (s : State) : Prop :=
  ∀ k : SlotIx, (s.slot k).credit ≤ (s.slot k).allowance ∧ (s.slot k).uncovered ≤ (s.slot k).aggregate

/-- The station parameters within R4's ranges. -/
def StationInRange (x : Station) : Prop :=
  x.id ≤ 63 ∧ (1 ≤ x.exchange ∧ x.exchange ≤ 8) ∧ (1 ≤ x.settleTallies ∧ x.settleTallies ≤ 15) ∧
    x.settleSweeps ≤ 15 ∧ x.staggerGap ≤ 255 ∧ x.attnThreshold ∈ [1, 2, 4, 8, 16, 32]

/-- A tenant slot's fields within R1's and R2's ranges. -/
def TenantInRange (x : Tenant) : Prop :=
  (∀ id ∈ x.tenantId, 1 ≤ id ∧ id ≤ 4095) ∧ x.contractCode ≤ 65535 ∧ x.burst ≤ 255 ∧ x.allowance ≤ 255 ∧
    (50 ≤ x.restorePercent ∧ x.restorePercent ≤ 100) ∧ 1 ≤ x.restoreHold ∧ x.restoreHold ≤ 60

/-- A branch's configured fields within R18's ranges. -/
def BranchConfigInRange (x : Branch) : Prop :=
  (1 ≤ x.limit ∧ x.limit ≤ 32000) ∧ (1 ≤ x.tripDelay ∧ x.tripDelay ≤ 15) ∧
    (50 ≤ x.restorePercent ∧ x.restorePercent ≤ 95) ∧ 10 ≤ x.restoreHold ∧ x.restoreHold ≤ 250

/-- Every configured figure is in its range (R1, R2, R4, R5, R18, R83). -/
def ConfigInRange (s : State) : Prop :=
  StationInRange s.station ∧ (∀ k : SlotIx, TenantInRange (s.tenant k)) ∧
    (∀ o : OutletIx, (∀ g ∈ (s.outlet o).gains.toList, g ≤ 65535) ∧
      -512 ≤ (s.outlet o).offset ∧ (s.outlet o).offset ≤ 511) ∧
    (∀ b : BranchIx, BranchConfigInRange (s.branch b)) ∧
    ∀ n : FixedIx, ∀ e ∈ s.fixedEntry n, e.contribution < 16777216 ∧ ∀ c ∈ e.covers, 1 ≤ c ∧ c ≤ 63

/-- Every dynamic entry's figures are in the ranges of R82, and so is what a NOTE not yet taken would write (R71, R75). -/
def TableInRange (s : State) : Prop :=
  (∀ i : PlaceIx, ∀ e ∈ s.entry i,
    (1 ≤ e.station ∧ e.station ≤ 63) ∧ e.contribution < 16777216 ∧ e.code ≤ 65535 ∧ e.stamp ≤ 255 ∧
      (∀ c ∈ e.shed, c.rank ≤ 14 ∧ c.draw ≤ 40000) ∧ (∀ c ∈ e.restore, c.rank ≤ 15 ∧ c.draw ≤ 40000) ∧
      ∀ a ∈ e.adjustment, a.draw ≤ 40000) ∧
    ∀ n ∈ s.ctb.notes, n.draw ≤ 40000

/-- A slot runtime record within R58's ranges: L, A, C, B and the last tally (K and U are CreditsBounded's). -/
def SlotInRange (r : SlotRuntime) : Prop :=
  r.localDraw ≤ 1932240 ∧ r.aggregate ≤ 4294967295 ∧ (r.contract = 0 ∨ 100 ≤ r.contract ∧ r.contract ≤ 6553500) ∧
    r.allowance ≤ 1671142500 ∧ r.lastTally ≤ 4294967295

/-- What the blocks count and hold is in its range: the settle countdown (R33) and the remembered draw (R9, R29) of an
outlet, the warm-up count (R35), the tally count (R39), the slot runtime records (R58), the settle timer of 15 s at most and
the hold counter (R100), the branch's current, over-count and hold count (R123), the last attributed figure (R148). -/
def RuntimeInRange (s : State) : Prop :=
  (∀ o : OutletIx, (s.outlet o).countdown ≤ 15 ∧
    ∀ d ∈ (s.outlet o).remembered, d.p ≤ 40000 ∧ d.s ≤ 40000 ∧ d.i ≤ 20000) ∧
    s.osu.warmup ≤ 8 ∧ s.tly.count ≤ 4294967295 ∧
    (∀ k : SlotIx, SlotInRange (s.slot k) ∧ (s.curSlot k).hold ≤ 60 ∧
      (∀ n ∈ (s.curSlot k).settle, 1 ≤ n ∧ n ≤ 3750000) ∧ (s.counters k).lastAttributed ≤ 1932240) ∧
    ∀ b : BranchIx, (s.branch b).current ≤ 160000 ∧ (s.branch b).overCount ≤ 15 ∧ (s.branch b).holdCount ≤ 250

/-- The actions the sequencer holds: in flight, then the urgent lane, then the standard lane (R132). -/
def heldActions (s : State) : List Action :=
  (s.rsq.inFlight.map (·.action)).toList ++ s.rsq.urgent ++ s.rsq.standard

/-- Each outlet is the subject of at most one action (R133), the lanes hold what R132 lets them and no more, and no FAULTED
outlet has an action in flight (R144). -/
def LanesHold (s : State) : Prop :=
  ((heldActions s).map (·.outlet)).Nodup ∧ s.rsq.urgent.length ≤ 8 ∧ s.rsq.standard.length ≤ 32 ∧
    (∀ a ∈ s.rsq.urgent, a.lane = .urgent) ∧ (∀ a ∈ s.rsq.standard, a.lane = .standard) ∧
    ∀ f ∈ s.rsq.inFlight, (s.outlet f.action.outlet).actuator = .enabled ∧ f.action.kind ≠ .rearm

/-- The branch-origin actions held for a branch's outlets (R130). -/
def branchActions (s : State) (b : BranchIx) : List Action :=
  (heldActions s).filter fun a => a.origin == .branch && branchOf a.outlet == b

/-- At most one branch-origin action per branch (R130), with what it rests on. -/
def BranchLaw (s : State) : Prop := LanesHold s ∧ ∀ b : BranchIx, (branchActions s b).length ≤ 1

/-- A branch's hold count is 0 in every state but SHED (R125), and it waits on an outlet of its own exactly in TRIPPING
(R123). -/
def BranchesHold (s : State) : Prop :=
  ∀ b : BranchIx, ((s.branch b).state ≠ .shed → (s.branch b).holdCount = 0) ∧
    ((s.branch b).tripped.isSome = true ↔ (s.branch b).state = .tripping) ∧
    ∀ o ∈ (s.branch b).tripped, branchOf o = b

/-- A frame is a NOTE. -/
def isNote (f : TxFrame) : Bool := f.content.cls == 0

/-- In CONFIG the link is OFF (R77); an OFF or SILENT link has an empty queue (R72); the queue holds up to 8 frames, each
with fewer than 4 failed attempts, NOTEs in their run and at most one SUMMARY of each segment index waiting (R72); the
counts stay in their ranges (R66, R75). The retry timer runs exactly in DOWN, a try is under way in DOWN alone, a frame is on
the line in DOWN only under a try, and a try for a waiting SUMMARY or ANNOUNCE has one to send (R78). -/
def LinkHolds (s : State) : Prop :=
  (s.mpt.phase = .config → s.rlc.link = .off) ∧
    (s.rlc.link = .off ∨ s.rlc.link = .silent → s.rlc.queued = 0) ∧ s.rlc.queued ≤ 8 ∧
    (∀ f ∈ s.rlc.onLine.toList ++ s.rlc.noteRun ++ s.rlc.otherRun, f.attempts ≤ 3) ∧
    (∀ f ∈ s.rlc.noteRun, isNote f = true) ∧ (∀ f ∈ s.rlc.otherRun, isNote f = false) ∧
    (s.rlc.otherRun.filterMap (·.segment)).Nodup ∧ s.rlc.failures ≤ 16 ∧ s.rlc.rxErrors ≤ 65535 ∧
    (s.rlc.retry.isSome = true ↔ s.rlc.link = .down) ∧ (s.rlc.tryOn = true → s.rlc.link = .down) ∧
    (s.rlc.link = .down → s.rlc.onLine ≠ none → s.rlc.tryOn = true) ∧
    (s.rlc.tryOther = true → s.rlc.tryOn = true ∧ s.rlc.onLine = none ∧ s.rlc.otherRun ≠ [])

/-- The Contribution Table never holds two entries with the same key, an entry bearing the station's own ID, or an entry
for a slot and station covered by a fixed entry (R86); ages are 0..2 (R82). In CONFIG it holds no dynamic entry and the
link is OFF (R98). -/
def TableHolds (s : State) : Prop :=
  (s.mpt.phase = .config → s.rlc.link = .off ∧ ∀ i : PlaceIx, s.entry i = none) ∧
    (∀ i j : PlaceIx, ∀ e ∈ s.entry i, ∀ f ∈ s.entry j, e.slot = f.slot → e.station = f.station → i = j) ∧
    ∀ i : PlaceIx, ∀ e ∈ s.entry i, e.age ≤ 2 ∧ e.station ≠ s.station.id ∧ s.covered e.slot e.station = false

/-- What the phases gate: outside RUN the tally timer is stopped (R38), no completion waits for a block (R36, R59) and the
sequencer holds nothing (R146); in CONFIG no sweep runs (R19), the aging timer is stopped (R91) and the link is OFF (R77).
And neither curtailment nor branch protection has asked to open a rank-15 outlet (R7). -/
def PhaseGates (s : State) : Prop :=
  (s.mpt.phase ≠ .run →
    s.tly.timer = none ∧ s.ect.tallies = [] ∧ s.cur.tallies = [] ∧ s.rlc.tallies = [] ∧ s.brm.sweeps = 0 ∧
      s.rsq.sweeps = 0 ∧ heldActions s = []) ∧
    (s.mpt.phase = .config →
      s.osu.sweepTimer = none ∧ s.osu.stage = .idle ∧ s.ctb.timer = none ∧ s.rlc.link = .off) ∧
    ∀ a ∈ heldActions s, a.kind = .openRelay → a.origin ≠ .manual → (s.outlet a.outlet).rank.val ≤ 14

end Sys2Proof.Safety
end

