-- ==== Sys2Proof/WellFormed.lean ====
section
/-! DEFINITION. Which terms of Instr are commands the port can carry (R159, R160, R179, R180). Every other operand is
well formed by its type. -/

namespace Sys2Proof

/-- The command codes of R180's table. -/
def commandCodes : List Nat :=
  [1, 2, 3, 4, 5, 6, 7, 16, 17, 18, 19, 20, 21, 32, 33, 48, 49, 50, 51, 52]

/-- A record's length byte can give its number of parameter bytes (R179: 0..255). -/
def Record.wf (r : Record) : Bool := decide (r.params.length ≤ 255)

/-- A transaction that carries no command (R159): fewer than two bytes, or command code 0. -/
def noCommandWf (bytes : List Byte) : Bool :=
  decide (bytes.length < 2) || bytes.head? == some 0

/-- A cut-short record (R159): a command code other than 0, and fewer parameter bytes than the length byte gives. -/
def cutShortWf (code len : Byte) (given : List Byte) : Bool :=
  code != 0 && decide (given.length < len.toNat)

/-- A code that names no command (R160), and is not 0. -/
def unknownCodeWf (code : Byte) : Bool :=
  code != 0 && !commandCodes.contains code.toNat

/-- Whether a term is a command the part can be given. -/
def Instr.wf : Instr → Bool
  | .powerOn => true
  | .resetPinAssert => true
  | .resetPinRelease => true
  | .noCommandTransaction bytes => noCommandWf bytes
  | .cutShortRecord code len given => cutShortWf code len given
  | .unknownCommandCode code rec => unknownCodeWf code && rec.wf
  | .readStatus rec => rec.wf
  | .readTenant rec => rec.wf
  | .readOutlet rec => rec.wf
  | .readBranch rec => rec.wf
  | .readContribution rec => rec.wf
  | .setCursor rec => rec.wf
  | .readNotices rec => rec.wf
  | .loadStation rec => rec.wf
  | .loadTenant rec => rec.wf
  | .loadOutlet rec => rec.wf
  | .loadCalibration rec => rec.wf
  | .loadBranch rec => rec.wf
  | .loadFixed rec => rec.wf
  | .start rec _ => rec.wf
  | .restart rec => rec.wf
  | .outletOpen rec _ => rec.wf
  | .outletClose rec _ => rec.wf
  | .rearm rec _ => rec.wf
  | .setBand rec => rec.wf
  | .clearCounters rec => rec.wf
  | .sweepTimerExpiry => true
  | .tempReadEnd _ => true
  | .tempReadTimeout => true
  | .readingReply _ => true
  | .readingTimeout => true
  | .lateReply _ => true
  | .settleCountdownEnd _ => true
  | .enterRun => true
  | .tallyTimerExpiry => true
  | .ectTallyCompletion => true
  | .curTallyCompletion _ => true
  | .rlcTallyCompletion => true
  | .brmSweepCompletion _ => true
  | .mismatchCheck _ => true
  | .agingTimerExpiry => true
  | .pendingAdjustmentExpiry _ => true
  | .settleTimerExpiry _ => true
  | .retryTimerExpiry => true
  | .staggerTimerExpiry _ => true
  | .feedbackTargetSensed _ => true
  | .coilPulseEnd _ => true
  | .feedbackWindowTimeout _ => true
  | .pulseEndAdoption _ _ => true
  | .contendOnIdleLine => true
  | .arbitrationLost => true
  | .transmitSuccess => true
  | .transmitFailure => true
  | .frameReceived _ => true
  | .ctbNote => true
  | .curNote => true

end Sys2Proof
end

