-- ==== Sys2Proof/Certificates/Slice0/Obligations.lean ====
section
/-! DEFINITION. The statements for the provers, with the few notions they share. A port command's transaction is counted
in bytes (R159, R179); times are ticks of 4 µs, 250 to the millisecond (log entry 1). -/

namespace Sys2Proof.Claims

open Sys2Proof.Machine

/-! ### Notions the statements share -/

/-- The bytes a record's transaction clocks in: code, length, parameters and the bytes beyond (R159, R179). -/
def clocked (r : Record) : Nat := 2 + r.params.length + r.trailing.length

/-- The state after a port command whose only own effect is its reply: the returned frame has been clocked out, and the
reply stands in the buffer with the flag set (R159). -/
def answered (s : State) (r : Record) (code : Byte) (status : Status) (data : List Byte) : State :=
  { s with
    dataOut := clockedOut (clocked r) s.mpt.frame
    mpt := { s.mpt with buffer := some ⟨code, status, data⟩, ready := true } }

/-- Code, parameter length and record of each port command (R180's table). -/
def portRow : Instr → Option (Byte × Nat × Record)
  | .readStatus r => some (1, 0, r)
  | .readTenant r => some (2, 1, r)
  | .readOutlet r => some (3, 1, r)
  | .readBranch r => some (4, 1, r)
  | .readContribution r => some (5, 0, r)
  | .setCursor r => some (6, 1, r)
  | .readNotices r => some (7, 1, r)
  | .loadStation r => some (16, 11, r)
  | .loadTenant r => some (17, 10, r)
  | .loadOutlet r => some (18, 4, r)
  | .loadCalibration r => some (19, 11, r)
  | .loadBranch r => some (20, 6, r)
  | .loadFixed r => some (21, 6, r)
  | .start r _ => some (32, 0, r)
  | .restart r => some (33, 0, r)
  | .outletOpen r _ => some (48, 1, r)
  | .outletClose r _ => some (49, 1, r)
  | .rearm r _ => some (50, 1, r)
  | .setBand r => some (51, 1, r)
  | .clearCounters r => some (52, 2, r)
  | _ => none

/-- A command's contact levels, where it brings any, are these. -/
def Brings (c : Instr) (pins : Contacts) : Prop :=
  match c with
  | .start _ x => x = pins
  | .outletOpen _ x => x = pins
  | .outletClose _ x => x = pins
  | .rearm _ x => x = pins
  | _ => True

/-- R181's codes of the tenant states. -/
def stateNumber : TenantState → Nat
  | .idle => 0
  | .uncontracted => 1
  | .within => 2
  | .burst => 3
  | .overdrawn => 4
  | .recovery => 5

/-- R181's codes of the action kinds. -/
def kindCode : ActionKind → Nat
  | .openRelay => 0
  | .closeRelay => 1
  | .rearm => 2

/-- R181's codes of the origins. -/
def originCode : Origin → Nat
  | .tenant => 0
  | .branch => 1
  | .manual => 2

/-- R181's codes of the completion statuses. -/
def completionCode : Completion → Nat
  | .done => 0
  | .feedbackTimeout => 1
  | .outletFaulted => 2
  | .superseded => 3

/-- R173's number of a notice's kind. -/
def kindNumber : NoticeBody → Nat
  | .tenantState .. => 1
  | .shedElected .. => 2
  | .restoreElected .. => 3
  | .uncurtailable .. => 4
  | .contractMismatch .. => 5
  | .peerExpired .. => 6
  | .tableFull .. => 7
  | .outletStale .. => 8
  | .outletFresh .. => 9
  | .actionDone .. => 10
  | .outletFault .. => 11
  | .branchTrip .. => 12
  | .branchUnprotectable .. => 13
  | .duplicateStation => 14
  | .linkDown => 15
  | .linkUp => 16
  | .outletWrap .. => 17
  | .slotWrap .. => 17
  | .tempSensorFail => 18

/-- R182's field bytes of a notice, each as a number taken modulo 256. -/
def noticeFields : NoticeBody → List Nat
  | .tenantState k old new => [k.val, stateNumber old, stateNumber new]
  | .shedElected k o rank draw => [k.val, o.val, rank, draw / 256, draw]
  | .restoreElected k o rank draw => [k.val, o.val, rank, draw / 256, draw]
  | .uncurtailable k => [k.val]
  | .contractMismatch k station code => [k.val, station, code / 256, code]
  | .peerExpired k station => [k.val, station]
  | .tableFull k station => [k.val, station]
  | .outletStale o => [o.val]
  | .outletFresh o => [o.val]
  | .actionDone o kind origin status => [o.val, kindCode kind, originCode origin, completionCode status]
  | .outletFault o cause => [o.val, if cause = .timeout then 0 else 1]
  | .branchTrip b o => [b.val, o.val]
  | .branchUnprotectable b => [b.val]
  | .duplicateStation => []
  | .linkDown => []
  | .linkUp => []
  | .outletWrap o => [1, o.val, 0]
  | .slotWrap k counter => [2, k.val, if counter = .energy then 0 else 1]
  | .tempSensorFail => []

/-- R182's record of a notice: kind number, stamp in four bytes, seven field bytes, those not used 0. -/
def noticeRecord (n : Notice) : List Byte :=
  ([kindNumber n.body, n.stamp / 16777216, n.stamp / 65536, n.stamp / 256, n.stamp] ++ noticeFields n.body ++
    List.replicate (7 - (noticeFields n.body).length) 0).map (BitVec.ofNat 8)

/-- A timer a tick later: one less, but not below one (log entry 1). -/
def ticked : Timer → Timer
  | some (n + 2) => some (n + 1)
  | x => x

/-- The notice queue after a notice has been raised (R172): a kind disabled in the mask, bit k − 1 for kind k, leaves the
queue; with 63 held the lost flag is set; otherwise the notice joins the tail. -/
def queuedNotice (st : Station) (stamp : Nat) (q : Nq) (b : NoticeBody) : Nq :=
  if st.kindMask.getLsbD (kindNumber b - 1) = false then q
  else if 63 ≤ q.queue.length then ⟨q.queue, true⟩
  else ⟨q.queue ++ [⟨stamp, b⟩], q.lost⟩

/-- The notice queue after these notices have been raised in order with one stamp (R172). -/
def raisedAll (st : Station) (stamp : Nat) (bodies : List NoticeBody) (q : Nq) : Nq :=
  bodies.foldl (queuedNotice st stamp) q

/-- The notice queue of a state after these notices, with the tally count as their stamp (R39, R172). -/
def raised (s : State) (bodies : List NoticeBody) : Nq := raisedAll s.station s.tly.count bodies s.nq

/-- The runtime part of every block at its reset value: the tables of R37, R58, R81, R99, R100, R123, R147, R148 and
R159, with R8 to R12, R30 and R33. -/
structure RuntimeReset (t : State) : Prop where
  outlets : ∀ o : OutletIx,
    (t.outlet o).commanded = .closed ∧ (t.outlet o).reason = .none ∧ (t.outlet o).remembered = none ∧
      (t.outlet o).feedback = .closed ∧ (t.outlet o).actuator = .enabled ∧
      (t.outlet o).reading = ⟨⟨0, 0, 0⟩, .ok, false, 0⟩ ∧ (t.outlet o).countdown = 0 ∧
      (t.outlet o).direction = none ∧ (t.outlet o).energy = ⟨0, 0, false⟩
  osu : t.osu = ⟨none, false, .idle, 0, 1, false, 0⟩
  tally : t.tly.timer = none ∧ t.tly.count = 0 ∧ ∀ k : SlotIx, t.slot k = ⟨.idle, 0, 0, 0, 0, 0, 0, 0⟩
  table : (∀ i : PlaceIx, t.entry i = none) ∧ t.ctb.timer = none ∧ t.ctb.full = false ∧ t.ctb.notes = []
  link : t.rlc = ⟨.off, none, [], [], 0, 0, none, false, false, []⟩
  curtailment : (∀ k : SlotIx, t.curSlot k = ⟨none, 0, false, false⟩) ∧ t.cur.tallies = [] ∧ t.cur.notes = []
  branches : (∀ b : BranchIx,
    (t.branch b).state = .normal ∧ (t.branch b).current = 0 ∧ (t.branch b).overCount = 0 ∧
      (t.branch b).holdCount = 0 ∧ (t.branch b).tripped = none ∧ (t.branch b).unprotectable = false) ∧
    t.brm.sweeps = 0
  relays : t.rsq = ⟨[], [], none, none, 0⟩
  energy : (∀ k : SlotIx, t.counters k = ⟨⟨0, 0, false⟩, ⟨0, 0, false⟩, 0⟩) ∧ t.ect.tallies = []
  port : t.mpt = ⟨.config, none, false, 0⟩
  notices : t.nq = ⟨[], false⟩

/-- The configuration at its defaults: R2, R4, R5, R18 and R83. -/
structure ConfigDefault (t : State) : Prop where
  station : t.station = ⟨0, 1, 3, 2, 10, true, 1, 1, BitVec.allOnes 18⟩
  tenants : ∀ k : SlotIx, t.tenant k = ⟨none, 0, 0, .real, 0, 90, 5⟩
  outlets : ∀ o : OutletIx,
    (t.outlet o).slot = none ∧ (t.outlet o).cls = .exempt ∧ (t.outlet o).rank = 0 ∧
      (t.outlet o).gains = #v[32768, 32768, 32768, 32768] ∧ (t.outlet o).offset = 0
  branches : ∀ b : BranchIx,
    (t.branch b).limit = 16000 ∧ (t.branch b).tripDelay = 3 ∧ (t.branch b).restorePercent = 80 ∧
      (t.branch b).restoreHold = 50
  fixed : ∀ n : FixedIx, t.fixedEntry n = none

/-- The configuration of a state kept from another. -/
structure ConfigKept (s t : State) : Prop where
  station : t.station = s.station
  tenants : t.tenants = s.tenants
  outlets : ∀ o : OutletIx,
    (t.outlet o).slot = (s.outlet o).slot ∧ (t.outlet o).cls = (s.outlet o).cls ∧
      (t.outlet o).rank = (s.outlet o).rank ∧ (t.outlet o).gains = (s.outlet o).gains ∧
      (t.outlet o).offset = (s.outlet o).offset
  branches : ∀ b : BranchIx,
    (t.branch b).limit = (s.branch b).limit ∧ (t.branch b).tripDelay = (s.branch b).tripDelay ∧
      (t.branch b).restorePercent = (s.branch b).restorePercent ∧
      (t.branch b).restoreHold = (s.branch b).restoreHold
  fixed : t.ctb.fixed = s.ctb.fixed

/-- The stay range of R21's table, in tenths of a degree. -/
def inStayRange (b : Band) (t : Int) : Prop :=
  (b = 0 → t < 170) ∧ (b = 1 → 130 ≤ t ∧ t < 370) ∧ (b = 2 → 330 ≤ t ∧ t ≤ 520) ∧ (b = 3 → 480 < t)

/-- R21's plain band of t. -/
def IsPlainBand (b : Band) (t : Int) : Prop :=
  (b = 0 ∧ t < 150) ∨ (b = 1 ∧ 150 ≤ t ∧ t < 350) ∨ (b = 2 ∧ 350 ≤ t ∧ t ≤ 500) ∨ (b = 3 ∧ 500 < t)

/-- The outlet record after a visit that leaves this reading: the countdown above 0 falls by 1 (R33), and its fall to 0
clears a closing draw (R34). -/
def afterVisit (x : Outlet) (reading : Reading) : Outlet :=
  { x with
    reading := reading
    countdown := x.countdown - 1
    remembered :=
      if x.countdown = 1 ∧ x.direction = some .closed ∧ x.reason = .none then none else x.remembered }

/-- R27's unclamped figure, with floor division. -/
def scaledFloor (raw : Int) (gain : Nat) : Int := Int.fdiv (raw * gain + 16384) 32768

/-- The reading R26 takes in RUN from a good reply, by R27 to R29; the miss count and the stale flag by R32. -/
def takenReading (x : Outlet) (band : Band) (r : FrontEndReply) : Reading :=
  let p := scaledFloor r.pRaw.toInt x.gains[band.val] + x.offset
  let s := scaledFloor r.sRaw.toNat x.gains[band.val] + x.offset
  let i := scaledFloor r.iRaw.toNat x.gains[band.val]
  let pIn := (min (max p 0) 40000).toNat
  let sIn := (min (max s 0) 40000).toNat
  { draw := ⟨pIn, if sIn < pIn then pIn else sIn, (min (max i 0) 20000).toNat⟩
    status := if r.status = .clipped ∨ p > 40000 ∨ s > 40000 ∨ i > 20000 then .clipped else .ok
    stale := false
    misses := 0 }

/-- The reading after a good reply: taken in RUN with the countdown at 0, otherwise held but fresh (R26, R32). -/
def readingAfterReply (s : State) (o : OutletIx) (r : FrontEndReply) : Reading :=
  if s.mpt.phase = .run ∧ (s.outlet o).countdown = 0 then takenReading (s.outlet o) s.osu.band r
  else { (s.outlet o).reading with stale := false, misses := 0 }

/-- The reading after NO_RESPONSE (R31). -/
def readingAfterSilence (x : Outlet) : Reading :=
  if x.reading.misses = 3 then { x.reading with misses := 4, stale := true }
  else if x.reading.misses < 3 then { x.reading with misses := x.reading.misses + 1 }
  else x.reading

/-- The outlets and notices after the visit of an outlet that leaves this reading, with the notices it raises. -/
def visited (s : State) (o : OutletIx) (reading : Reading) (bodies : List NoticeBody) : State :=
  { s with
    outlets := s.outlets.set o.val (afterVisit (s.outlet o) reading)
    nq := raised s bodies }

/-- The notice of a good reply (R32). -/
def freshNotice (s : State) (o : OutletIx) : List NoticeBody :=
  if (s.outlet o).reading.stale then [.outletFresh o] else []

/-- The notice of a silent visit (R31). -/
def staleNotice (s : State) (o : OutletIx) : List NoticeBody :=
  if (s.outlet o).reading.misses = 3 then [.outletStale o] else []

/-- The next request of a sweep (R24). -/
def nextRequest (s : State) (o : OutletIx) : State :=
  { s with osu := { s.osu with scan := o, stage := .requesting 375 } }

/-- A sweep start (R19, R20, R24): the sensor read when auto-retrieval is on, else the manual band and the first
request. -/
def sweepStarted (s : State) : State :=
  { s with osu :=
      if s.station.autoBand then { s.osu with sweepTimer := some 25000, owed := false, stage := .readingSensor 1250 }
      else
        { s.osu with
          sweepTimer := some 25000, owed := false, band := s.station.manualBand, scan := 0
          stage := .requesting 375 } }

/-- A completed sweep handed on by phase (R35, R36), and the owed sweep started (R19). -/
def sweepCompleted (s : State) : State :=
  let handed : State :=
    match s.mpt.phase with
    | .config => { s with osu := { s.osu with stage := .idle } }
    | .warmup => { s with osu := { s.osu with stage := .idle, warmup := min (s.osu.warmup + 1) 8 } }
    | .run =>
      { s with
        osu := { s.osu with stage := .idle }
        brm := { s.brm with sweeps := s.brm.sweeps + 1 }
        rsq := { s.rsq with sweeps := s.rsq.sweeps + 1 } }
  if s.osu.owed then sweepStarted handed else handed

/-- A least code of R49: the slot's own code or a non-zero code of a non-stale dynamic entry of the slot. -/
def IsLeastCode (s : State) (k : SlotIx) (c : Nat) : Prop :=
  (c = (s.tenant k).contractCode ∨
      ∃ i e, s.entry i = some e ∧ e.slot = k ∧ e.age < 2 ∧ e.code ≠ 0 ∧ c = e.code) ∧
    c ≤ (s.tenant k).contractCode ∧
    ∀ i e, s.entry i = some e → e.slot = k → e.age < 2 → e.code ≠ 0 → c ≤ e.code

/-- An entry's adjusted contribution (R47). -/
def adjustedContribution (e : DynEntry) : Nat :=
  match e.adjustment with
  | some ⟨.shed, d, _, _⟩ => e.contribution - d
  | some ⟨.restore, d, _, _⟩ => e.contribution + d
  | none => e.contribution

/-- L of R44: the counted values of the slot's CONTRACTED outlets, with the allowance where energised. -/
def localOf (s : State) (k : SlotIx) : Nat :=
  (allOutlets.map fun o =>
    if (s.outlet o).slot = some k ∧ (s.outlet o).cls = .contracted then
      (match (s.tenant k).mode with
        | .real => (s.counted o).p
        | .apparent => (s.counted o).s) + (if s.energised o then (s.tenant k).allowance else 0)
    else 0).sum

/-- A of R46: L, the slot's fixed entries and the adjusted contributions of its dynamic entries. -/
def aggregateFrom (s : State) (k : SlotIx) : Nat :=
  localOf s k +
    (allFixed.map fun n =>
      match s.fixedEntry n with
      | some e => if e.slot = k then e.contribution else 0
      | none => 0).sum +
    (allPlaces.map fun i =>
      match s.entry i with
      | some e => if e.slot = k then adjustedContribution e else 0
      | none => 0).sum

/-- A tenant-shed outlet of the slot is known (R55). -/
def shedIsKnown (s : State) (k : SlotIx) : Prop :=
  (∃ o, (s.outlet o).slot = some k ∧ (s.outlet o).reason = .tenant) ∨
    ∃ i e, s.entry i = some e ∧ e.slot = k ∧ e.age < 2 ∧ e.restore ≠ none

/-- A contracted slot's record after a tally: A and L as given, C and B by R49 and R50, K and U by R52, the state by
R54. -/
structure TalliedAs (s : State) (k : SlotIx) (n : Nat) (r : SlotRuntime) : Prop where
  localDraw : r.localDraw = localOf s k
  aggregate : r.aggregate = aggregateFrom s k
  contract : ∃ c, IsLeastCode s k c ∧ r.contract = 100 * c
  allowance : r.allowance = r.contract * (s.tenant k).burst
  credit : (r.credit : Int) =
    min (max ((min (s.slot k).credit r.allowance : Int) + r.contract - r.aggregate) 0) r.allowance
  uncovered : (r.uncovered : Int) =
    if r.contract < r.aggregate then
      max ((r.aggregate : Int) - r.contract - min (s.slot k).credit r.allowance) 0
    else 0
  recovery : r.aggregate ≤ r.contract → shedIsKnown s k → r.state = .recovery
  within : r.aggregate ≤ r.contract → ¬ shedIsKnown s k → r.state = .within
  burst : r.contract < r.aggregate → 0 < r.credit → r.state = .burst
  overdrawn : r.contract < r.aggregate → r.credit = 0 → r.state = .overdrawn
  lastTally : r.lastTally = n

/-- The TENANT_STATE notices of the slots whose state differs between two states, in slot order (R57). -/
def stateNotices (s t : State) : List NoticeBody :=
  allSlots.filterMap fun k =>
    if (s.slot k).state = (t.slot k).state then none
    else some (.tenantState k (s.slot k).state (t.slot k).state)

/-- A counter after an addition: the carry of R152 and the wrap of R155. -/
def addedTo (c : Counter) (amount : Nat) : Counter where
  count := (c.count * 36000 + c.residue + amount) / 36000 % 4294967296
  residue := (c.residue + amount) % 36000
  overflow := c.overflow || decide (4294967296 ≤ (c.count * 36000 + c.residue + amount) / 36000)

/-- The addition takes the count past 4,294,967,295 (R155). -/
def wraps (c : Counter) (amount : Nat) : Bool :=
  decide (4294967296 ≤ (c.count * 36000 + c.residue + amount) / 36000)

/-- R150's energy figure. -/
def energyOf (x : Outlet) : Nat := if x.feedback = .closed then x.reading.draw.p else 0

/-- R151's sum. -/
def slotEnergyOf (s : State) (k : SlotIx) : Nat :=
  (allOutlets.map fun o =>
    if (s.outlet o).slot = some k ∧ (s.outlet o).cls ≠ .exempt then energyOf (s.outlet o) else 0).sum

/-- R153's attribution. -/
def overageOf (r : SlotRuntime) : Nat := if r.uncovered = 0 then 0 else r.uncovered * r.localDraw / r.aggregate

/-- The slot's counters after a completion (R151, R153). -/
def accounted (s : State) (k : SlotIx) : SlotCounters :=
  let c := s.counters k
  if s.inUse k then
    if (s.slot k).state = .uncontracted then
      { c with energy := addedTo c.energy (slotEnergyOf s k), lastAttributed := 0 }
    else
      { energy := addedTo c.energy (slotEnergyOf s k)
        overage := addedTo c.overage (overageOf (s.slot k))
        lastAttributed := overageOf (s.slot k) }
  else c

/-- The COUNTER_WRAP notices of a completion, in the order of its work (R149, R155). -/
def wrapNotices (s : State) : List NoticeBody :=
  (allOutlets.filterMap fun o =>
    if wraps (s.outlet o).energy (energyOf (s.outlet o)) then some (.outletWrap o) else none) ++
  allSlots.flatMap fun k =>
    if s.inUse k then
      (if wraps (s.counters k).energy (slotEnergyOf s k) then [.slotWrap k .energy] else []) ++
        (if (s.slot k).state ≠ .uncontracted ∧ wraps (s.counters k).overage (overageOf (s.slot k)) = true then
          [.slotWrap k .overage]
        else [])
    else []

/-! ### Notions of elections, branches and relays -/

/-- R102's conditions. -/
def MayShed (s : State) (k : SlotIx) (o : OutletIx) : Prop :=
  (s.outlet o).slot = some k ∧ (s.outlet o).cls = .contracted ∧ (s.outlet o).rank.val ≤ 14 ∧
    (s.outlet o).commanded = .closed ∧ (s.outlet o).actuator = .enabled ∧ s.pendingFor o = none

/-- The counted value a slot takes of a set of figures (R43). -/
def inMode (m : CountMode) (d : Draw) : Nat :=
  match m with
  | .real => d.p
  | .apparent => d.s

/-- R102's choice: lowest rank, then highest counted value, then lowest index. -/
def IsOwnShed (s : State) (k : SlotIx) (o : OutletIx) : Prop :=
  let value (o : OutletIx) := inMode (s.tenant k).mode (s.counted o)
  MayShed s k o ∧ ∀ o', MayShed s k o' →
    (s.outlet o).rank.val < (s.outlet o').rank.val ∨
      (s.outlet o).rank.val = (s.outlet o').rank.val ∧ (value o' < value o ∨ value o' = value o ∧ o ≤ o')

/-- R110's conditions. -/
def MayRestore (s : State) (k : SlotIx) (o : OutletIx) : Prop :=
  (s.outlet o).slot = some k ∧ (s.outlet o).reason = .tenant ∧ (s.outlet o).actuator = .enabled ∧
    s.pendingFor o = none

/-- An outlet's remembered figures, in the slot's mode (R110). -/
def rememberedValue (s : State) (k : SlotIx) (o : OutletIx) : Nat :=
  inMode (s.tenant k).mode ((s.outlet o).remembered.getD ⟨0, 0, 0⟩)

/-- R110's choice: highest rank, then smallest remembered value, then lowest index. -/
def IsOwnRestore (s : State) (k : SlotIx) (o : OutletIx) : Prop :=
  MayRestore s k o ∧ ∀ o', MayRestore s k o' →
    (s.outlet o').rank.val < (s.outlet o).rank.val ∨
      (s.outlet o').rank.val = (s.outlet o).rank.val ∧
        (rememberedValue s k o < rememberedValue s k o' ∨ rememberedValue s k o = rememberedValue s k o' ∧ o ≤ o')

/-- An entry whose candidates are in view for the slot (R104, R111). -/
def EntryInView (s : State) (k : SlotIx) (e : DynEntry) : Prop :=
  (∃ i, s.entry i = some e) ∧ e.slot = k ∧ e.age < 2 ∧ e.adjustment = none

/-- A pair comes before another in R105's order. -/
def shedsFirst (rank station rank' station' : Nat) : Prop := rank < rank' ∨ rank = rank' ∧ station < station'

/-- A pair comes before another in R111's order. -/
def restoresFirst (rank station rank' station' : Nat) : Prop := rank' < rank ∨ rank = rank' ∧ station < station'

/-- A slot's record in the CUR, replaced. -/
def withSlotItems (s : State) (k : SlotIx) (c : CurSlot) : State :=
  { s with cur := { s.cur with slots := s.cur.slots.set k.val c } }

/-- A slot's three items in the CUR, replaced (R100). -/
def withItems (s : State) (k : SlotIx) (settle : Timer) (hold : Nat) (flag : Bool) : State :=
  withSlotItems s k { s.curSlot k with settle := settle, hold := hold, uncurtailable := flag }

/-- A timer's running out falls in this moment: it shows its last tick (log entries 1 and 32). -/
def lastTick : Timer → Bool
  | some n => decide (n ≤ 1)
  | none => false

/-- A slot's settle timer started at these ticks; where its former run is due in this moment, that is marked (R115, R116;
log entry 32). -/
def settleStarted (s : State) (k : SlotIx) (ticks : Nat) : State :=
  withSlotItems s k
    { s.curSlot k with settle := some ticks, oldDue := (s.curSlot k).oldDue || lastTick (s.curSlot k).settle }

/-- The adjustment a NOTE sets on an entry, and whether it replaces one that is due in this moment (R94, R95; log entry
32). -/
def adjustedBy (e : DynEntry) (n : HeardNote) (ticks : Nat) : DynEntry :=
  { e with adjustment := some {
      direction := n.direction
      draw := n.draw
      left := ticks
      oldDue := match e.adjustment with
        | some a => a.oldDue || decide (a.left ≤ 1)
        | none => false } }

/-- An election that takes effect, up to the sequencer's choice: the outlet's record, the action appended, the note request
(taken in ACTIVE and DOWN, R71), the notice and the slot's items (R107, R113). -/
def elected (s : State) (k : SlotIx) (o : OutletIx) (record : Outlet) (kind : ActionKind) (note : FrameContent)
    (stamp : Nat) (body : NoticeBody) (flag : Bool) : State :=
  { withItems s k (some (s.station.settleTallies * 250000)) 0 flag with
    outlets := s.outlets.set o.val record
    rsq := { s.rsq with standard := s.rsq.standard ++ [⟨o, kind, .tenant, some k⟩] }
    rlc := if s.rlc.link = .active ∨ s.rlc.link = .down then s.rlc.putNote note else s.rlc
    nq := raisedAll s.station stamp [body] s.nq }

/-- The tenant entry a SUMMARY carries for a slot (R68, R45). -/
def summaryOf (s : State) (k : SlotIx) : SummaryEntry :=
  if (s.tenant k).contractCode = 0 then
    { tenantId := (s.tenant k).tenantId.getD 0, contribution := 0, code := 0, state := (s.slot k).state
      shed := none, restore := none }
  else
    { tenantId := (s.tenant k).tenantId.getD 0
      contribution := localOf s k
      code := (s.tenant k).contractCode
      state := (s.slot k).state
      shed := (s.ownShed k).map fun c => ⟨c.rank, c.draw⟩
      restore := (s.ownRestore k).map fun c => ⟨c.rank, c.draw⟩ }

/-- R124's sum. -/
def currentOf (s : State) (b : BranchIx) : Nat :=
  (allOutlets.map fun o => if o.val / 8 = b.val then (s.counted o).i else 0).sum

/-- R123's branch-shed count. -/
def branchShed (s : State) (b : BranchIx) : Nat :=
  (allOutlets.filter fun o => o.val / 8 == b.val && (s.outlet o).reason == .branch).length

/-- A pending action of origin BRANCH for an outlet (R123). -/
def BranchActionFor (s : State) (o : OutletIx) : Prop := ∃ p, s.pendingFor o = some p ∧ p.action.origin = .branch

/-- A branch action is pending (R123). -/
def BranchBusy (s : State) (b : BranchIx) : Prop := ∃ o : OutletIx, o.val / 8 = b.val ∧ BranchActionFor s o

/-- A branch record replaced. -/
def withBranch (s : State) (b : BranchIx) (x : Branch) : State :=
  { s with brm := { s.brm with branches := s.brm.branches.set b.val x } }

/-- R126's conditions for an outlet of the branch. -/
def MayTrip (s : State) (b : BranchIx) (o : OutletIx) : Prop :=
  o.val / 8 = b.val ∧ (s.outlet o).commanded = .closed ∧ (s.outlet o).actuator = .enabled ∧
    (s.outlet o).rank.val ≤ 14 ∧ ¬ BranchActionFor s o

/-- R126's choice. -/
def IsTripCandidate (s : State) (b : BranchIx) (o : OutletIx) : Prop :=
  MayTrip s b o ∧ ∀ o', MayTrip s b o' →
    (s.outlet o).rank.val < (s.outlet o').rank.val ∨
      (s.outlet o).rank.val = (s.outlet o').rank.val ∧
        ((s.counted o').i < (s.counted o).i ∨ (s.counted o').i = (s.counted o).i ∧ o ≤ o')

/-- R129's conditions for an outlet of the branch. -/
def MayBranchRestore (s : State) (b : BranchIx) (o : OutletIx) : Prop :=
  o.val / 8 = b.val ∧ (s.outlet o).reason = .branch ∧ (s.outlet o).actuator = .enabled ∧ s.pendingFor o = none

/-- An outlet's remembered figures. -/
def rememberedOf (s : State) (o : OutletIx) : Draw := (s.outlet o).remembered.getD ⟨0, 0, 0⟩

/-- R129's choice. -/
def IsBranchRestore (s : State) (b : BranchIx) (o : OutletIx) : Prop :=
  MayBranchRestore s b o ∧ ∀ o', MayBranchRestore s b o' →
    (s.outlet o').rank.val < (s.outlet o).rank.val ∨
      (s.outlet o').rank.val = (s.outlet o).rank.val ∧
        ((rememberedOf s o).i < (rememberedOf s o').i ∨
          (rememberedOf s o).i = (rememberedOf s o').i ∧ o ≤ o')

/-- The candidate's tenant has room (R129). -/
def HasRoom (s : State) (o : OutletIx) : Prop :=
  ∀ k, (s.outlet o).slot = some k →
    ((s.slot k).state = .within ∨ (s.slot k).state = .recovery ∨ (s.slot k).state = .uncontracted) ∧
      ((s.outlet o).cls = .contracted → s.inUse k = true → (s.tenant k).contractCode ≠ 0 →
        (s.slot k).aggregate + inMode (s.tenant k).mode (rememberedOf s o) ≤ (s.slot k).contract)

/-- The restore test of a branch passes for a candidate (R129). -/
def BranchTestPasses (s : State) (b : BranchIx) (o : OutletIx) : Prop :=
  ¬ BranchBusy s b ∧
    (s.branch b).current + (rememberedOf s o).i ≤ (s.branch b).limit * (s.branch b).restorePercent / 100 ∧
    HasRoom s o

/-- The target of an action (R138). -/
def targetOf (k : ActionKind) : Position := if k = .openRelay then .opened else .closed

/-- The stagger timer started with the gap; with a gap of 0 it expires at once (R137). -/
def staggerOf (s : State) : Timer := if s.station.staggerGap = 0 then none else some (s.station.staggerGap * 2500)

/-- An action started (R138): the lanes left, the pulse of 20 ms, the window of 100 ms. -/
def started (s : State) (a : Action) (urgent standard : List Action) : State :=
  { s with rsq := { s.rsq with
      urgent := urgent
      standard := standard
      inFlight := some ⟨a, some 5000, 25000, s.sensed a.outlet == targetOf a.kind⟩ } }

/-- An action retired DONE from the in-flight place (R139), up to the next choice. -/
def retiredDone (s : State) (a : Action) : State :=
  let x := s.outlet a.outlet
  { s with
    outlets := s.outlets.set a.outlet.val { x with
      feedback := targetOf a.kind
      countdown := s.station.settleSweeps
      direction := some (targetOf a.kind)
      remembered :=
        if a.kind = .closeRelay ∧ s.station.settleSweeps = 0 ∧ x.reason = .none then none else x.remembered }
    rsq := { s.rsq with
      inFlight := none, stagger := if a.kind = .closeRelay then staggerOf s else s.rsq.stagger }
    nq := raised s [.actionDone a.outlet a.kind a.origin .done] }

/-- An action retired FEEDBACK_TIMEOUT from the in-flight place (R140), up to the next choice. -/
def retiredTimeout (s : State) (a : Action) : State :=
  let x := s.outlet a.outlet
  { s with
    outlets := s.outlets.set a.outlet.val { x with
      feedback := s.sensed a.outlet
      actuator := .faulted
      remembered := if a.kind = .closeRelay ∧ x.reason = .none then none else x.remembered }
    rsq := { s.rsq with
      inFlight := none, stagger := if a.kind = .closeRelay then staggerOf s else s.rsq.stagger }
    nq := raised s [.outletFault a.outlet .timeout, .actionDone a.outlet a.kind a.origin .feedbackTimeout] }

/-- An OPEN or CLOSE for a FAULTED outlet taken from its lane and retired OUTLET_FAULTED (R143) with a stamp, up to the next
choice. -/
def retiredFaulted (stamp : Nat) (s : State) (a : Action) (urgent standard : List Action) : State :=
  let x := s.outlet a.outlet
  { s with
    outlets := s.outlets.set a.outlet.val { x with
      remembered := if a.kind = .closeRelay ∧ x.reason = .none then none else x.remembered }
    rsq := { s.rsq with urgent := urgent, standard := standard }
    nq := raisedAll s.station stamp [.actionDone a.outlet a.kind a.origin .outletFaulted] s.nq }

/-- An outlet record adopted from the sensed position (R17's table). -/
def adoptedAs (x : Outlet) (p : Position) : Outlet :=
  match p with
  | .closed =>
    { x with
      feedback := .closed, commanded := .closed, reason := .none, remembered := none, actuator := .enabled }
  | .opened =>
    { x with
      feedback := .opened, commanded := .opened, reason := .manual, actuator := .enabled
      remembered := some (x.remembered.getD x.reading.draw) }

/-- A REARM taken from its lane and completed (R145) with a stamp, up to the next choice. -/
def rearmed (stamp : Nat) (s : State) (a : Action) (urgent standard : List Action) : State :=
  { s with
    outlets := s.outlets.set a.outlet.val { adoptedAs (s.outlet a.outlet) (s.sensed a.outlet) with
      countdown := s.station.settleSweeps, direction := some (s.sensed a.outlet) }
    rsq := { s.rsq with urgent := urgent, standard := standard }
    nq := raisedAll s.station stamp [.actionDone a.outlet a.kind a.origin .done] s.nq }

/-- The spontaneous-mismatch check finds an ENABLED outlet away from its expected position (R142). -/
def FoundAway (s : State) (o : OutletIx) (p : Position) : Prop :=
  (s.outlet o).actuator = .enabled ∧
    ((s.pendingFor o = none ∧ p ≠ (s.outlet o).commanded) ∨
      ∃ a, s.pendingFor o = some ⟨a, false⟩ ∧ a.kind ≠ .rearm ∧ p ≠ (s.outlet o).feedback)

/-- The own ranges of a candidate (R68). -/
def CandidateInRange (maxRank : Nat) (c : Option Candidate) : Prop :=
  ∀ x, c = some x → x.rank ≤ maxRank ∧ x.draw ≤ 40000

/-- The content of a frame within the ranges of R67, R68, R71 and R75. -/
def ContentInRange : FrameContent → Prop
  | .announce n => 1 ≤ n ∧ n ≤ 16
  | .summary stamp segment _ entries =>
    stamp < 256 ∧ segment ≤ 1 ∧ 1 ≤ entries.length ∧ entries.length ≤ 8 ∧
      ∀ e ∈ entries, 1 ≤ e.tenantId ∧ e.tenantId ≤ 4095 ∧ e.contribution < 16777216 ∧ e.code < 65536 ∧
        CandidateInRange 14 e.shed ∧ CandidateInRange 15 e.restore
  | .note tenantId _ rank draw stamp =>
    1 ≤ tenantId ∧ tenantId ≤ 4095 ∧ rank ≤ 15 ∧ draw ≤ 40000 ∧ stamp < 256

/-- A dynamic entry as a summary entry leaves it (R87, R88). -/
def learnt (k : SlotIx) (station stamp : Nat) (mismatch : Bool) (e : SummaryEntry) : DynEntry :=
  { slot := k, station := station, contribution := e.contribution, code := e.code, state := e.state
    shed := e.shed, restore := e.restore, age := 0, stamp := stamp, adjustment := none, mismatch := mismatch }

/-- An entry stored with the contract-mismatch check of R90 made on it; with both codes 0 the report becomes no (log entry
38). -/
def storedChecked (s : State) (i : PlaceIx) (e : DynEntry) : State :=
  let own := (s.tenant e.slot).contractCode
  let away := e.code ≠ 0 ∧ e.code ≠ own
  { s with
    ctb := { s.ctb with dyn := s.ctb.dyn.set i.val (some { e with
      mismatch := if e.code = own then false else if away then true else e.mismatch }) }
    nq := if away ∧ e.mismatch = false then raised s [.contractMismatch e.slot e.station e.code] else s.nq }

/-- The bits of bytes, each byte's most significant first (R178). -/
def bitsOf (bytes : List Byte) : List Bool :=
  bytes.flatMap fun b => [7, 6, 5, 4, 3, 2, 1, 0].map fun i => b.toNat.testBit i

/-- R178's register after these bits, from this start. -/
def crcFrom (reg : Nat) (bits : List Bool) : Nat :=
  bits.foldl
    (fun reg bit =>
      let shifted := reg * 2 % 65536
      if decide (32768 ≤ reg) = bit then shifted else shifted ^^^ 0x1021) reg

/-- Bytes with their CRC behind, high byte first (R178). -/
def withCrc (body : List Byte) : List Byte :=
  body ++ [BitVec.ofNat 8 (crcFrom 0xFFFF (bitsOf body) / 256), BitVec.ofNat 8 (crcFrom 0xFFFF (bitsOf body))]

/-- A candidate's three bytes (R177). -/
def candidateAs : Option Candidate → List Byte
  | some c => [BitVec.ofNat 8 (128 + c.rank), BitVec.ofNat 8 (c.draw / 256), BitVec.ofNat 8 c.draw]
  | none => [0, 0, 0]

/-- A tenant entry's fourteen bytes (R177). -/
def entryAs (e : SummaryEntry) : List Byte :=
  [BitVec.ofNat 8 (e.tenantId / 256), BitVec.ofNat 8 e.tenantId, BitVec.ofNat 8 (e.contribution / 65536),
    BitVec.ofNat 8 (e.contribution / 256), BitVec.ofNat 8 e.contribution, BitVec.ofNat 8 (e.code / 256),
    BitVec.ofNat 8 e.code, BitVec.ofNat 8 (stateNumber e.state)] ++ candidateAs e.shed ++ candidateAs e.restore

end Sys2Proof.Claims

open Sys2Proof Sys2Proof.Machine Sys2Proof.Safety Sys2Proof.Claims

/-! ### The step -/

/-- A step takes the command at the front of the queue and runs it on the state with the queue's rest. -/
def Obligations.StepTakesFrontCommand : Prop :=
  ∀ (c : Instr) (rest : List Instr) (s : State),
    s.pending = c :: rest → step s = exec c { s with pending := rest }

/-- With nothing waiting a step is one tick of 4 µs: every running timer loses a tick but not its last, the marks of
a moment are cleared, and nothing else changes; while the reset pin is held nothing changes at all. The model's choice: log
entries 1, 6 and 32. -/
def Obligations.EmptyQueuePassesOneTick : Prop :=
  ∀ s : State, s.pending = [] →
    (s.resetHeld = true → step s = .next s) ∧
    (s.resetHeld = false → ∃ t, step s = .next t ∧
      t = { s with
        outlets := t.outlets
        osu := { s.osu with sweepTimer := ticked s.osu.sweepTimer, stage := t.osu.stage }
        tly := { s.tly with timer := ticked s.tly.timer }
        ctb := { s.ctb with timer := ticked s.ctb.timer, dyn := t.ctb.dyn }
        rlc := { s.rlc with retry := ticked s.rlc.retry }
        cur := { s.cur with slots := t.cur.slots }
        rsq := { s.rsq with stagger := ticked s.rsq.stagger, inFlight := t.rsq.inFlight } } ∧
      (∀ o, t.outlet o = { s.outlet o with
        residualPulse := (s.outlet o).residualPulse.map fun p => { p with left := (ticked (some p.left)).getD 0 } }) ∧
      (s.osu.stage = .idle → t.osu.stage = .idle) ∧
      (∀ n, s.osu.stage = .readingSensor n → t.osu.stage = .readingSensor ((ticked (some n)).getD 0)) ∧
      (∀ n, s.osu.stage = .requesting n → t.osu.stage = .requesting ((ticked (some n)).getD 0)) ∧
      (∀ i, t.entry i = (s.entry i).map fun e =>
        { e with adjustment := e.adjustment.map fun a =>
          { a with left := (ticked (some a.left)).getD 0, oldDue := false } }) ∧
      (∀ k, t.curSlot k = { s.curSlot k with settle := ticked (s.curSlot k).settle, oldDue := false }) ∧
      t.rsq.inFlight = s.rsq.inFlight.map fun f =>
        { f with pulse := ticked f.pulse, window := (ticked (some f.window)).getD 0 })

/-- No command ends in a fault or a refusal: each answers a next state, from every state. While the reset pin is held, no
command but the resets themselves changes anything. R160 and R167 say so of the transactions; that it holds of every internal
event too, and that no command stops, is the model's reading (log entries 6 and 25). -/
def Obligations.EveryCommandAnswersNext : Prop :=
  ∀ (c : Instr) (s : State), (∃ t, exec c s = .next t) ∧
    (s.resetHeld = true → c ≠ .powerOn → c ≠ .resetPinAssert → c ≠ .resetPinRelease → exec c s = .next s)

/-! ### Resets -/

/-- POWER_ON and RESET_PIN_RELEASE bring every block to its starting state: the runtime part reset, the configuration at
its defaults, no coil driven. That the input levels and the waiting commands stay, and that the record of what was clocked
out is empty, are the model's choices (log entries 7 and 9). -/
def Obligations.PowerOnAndPinReleaseReset : Prop :=
  ∀ s : State, ∃ t u, exec .powerOn s = .next t ∧ exec .resetPinRelease s = .next u ∧
    (RuntimeReset t ∧ ConfigDefault t ∧ (∀ o p, t.coilDriven o p = false) ∧
      t.resetHeld = s.resetHeld ∧ t.contacts = s.contacts ∧ t.dataOut = [] ∧ t.pending = s.pending) ∧
    (RuntimeReset u ∧ ConfigDefault u ∧ (∀ o p, u.coilDriven o p = false) ∧
      u.resetHeld = false ∧ u.contacts = s.contacts ∧ u.dataOut = [] ∧ u.pending = s.pending)

/-- RESET_PIN_ASSERT: from then on the pin is held, no coil is driven, ATTN is released, nothing stands on the row link,
and no request or sensor read is under way; the blocks not driving a pin keep their values until the release (log entry
6). -/
def Obligations.PinAssertStopsEveryOutput : Prop :=
  ∀ s : State, ∃ t, exec .resetPinAssert s = .next t ∧ t.resetHeld = true ∧
    (∀ o p, t.coilDriven o p = false) ∧ t.attn = false ∧ t.lineBytes = none ∧ t.osu.stage = .idle ∧
    t = { s with resetHeld := true, outlets := t.outlets, osu := Osu.reset, rlc := Rlc.reset, rsq := Rsq.reset } ∧
    ∀ o, t.outlet o = { s.outlet o with residualPulse := none }

/-- RESTART: every block at its reset values, the configuration kept, the buffer empty and the flag clear, and a running
coil pulse left to its end, in its direction. -/
def Obligations.RestartKeepsConfigurationAlone : Prop :=
  ∀ (r : Record) (s : State), s.resetHeld = false → r.params = [] →
    ∃ t, exec (.restart r) s = .next t ∧ RuntimeReset t ∧ ConfigKept s t ∧
      t.resetHeld = false ∧ t.contacts = s.contacts ∧ t.dataOut = clockedOut (clocked r) s.mpt.frame ∧
      t.pending = s.pending ∧
      ∀ o, (t.outlet o).residualPulse =
        match s.rsq.inFlight with
        | some f =>
          match f.pulse with
          | some left =>
            if f.action.outlet = o then some ⟨targetOf f.action.kind, left⟩ else (s.outlet o).residualPulse
          | none => (s.outlet o).residualPulse
        | none => (s.outlet o).residualPulse

/-! ### Transactions -/

/-- A transaction without a command clocks out the returned frame: with the flag set, 0x01, the code, the status, the data
length, the data, then zeros; with it clear, zeros. The flag is cleared when the last byte of the reply has been sent.
Nothing else changes. -/
def Obligations.TransactionReturnsTheReply : Prop :=
  ∀ (bytes : List Byte) (s : State), s.resetHeld = false → noCommandWf bytes = true →
    (s.mpt.ready = false →
      exec (.noCommandTransaction bytes) s = .next { s with dataOut := List.replicate bytes.length 0 }) ∧
    ∀ p : Reply, s.mpt.ready = true → s.mpt.buffer = some p →
      exec (.noCommandTransaction bytes) s =
        .next { s with
          dataOut :=
            ([1, p.code, p.status.code, BitVec.ofNat 8 p.data.length] ++ p.data ++
              List.replicate (bytes.length - (4 + p.data.length)) 0).take bytes.length
          mpt := { s.mpt with ready := decide (bytes.length < 4 + p.data.length) } }

/-- A cut-short record is answered BAD_ARGUMENT and a code that names no command UNKNOWN_COMMAND, each with the code as
received; and every port command whose length byte differs from the table's is refused BAD_ARGUMENT, before any other check.
Only the reply buffer and the data-out pin change. That the cursor stays at a READ CONTRIBUTION of wrong length is the model's
reading of R160 beside R96 (log entry 12). -/
def Obligations.BadRecordsAndLengthsAreRefused : Prop :=
  (∀ (s : State), s.resetHeld = false →
    (∀ (code len : Byte) (given : List Byte), cutShortWf code len given = true →
      exec (.cutShortRecord code len given) s = .next (answered s ⟨given, []⟩ code .badArgument [])) ∧
    ∀ (code : Byte) (r : Record), unknownCodeWf code = true →
      exec (.unknownCommandCode code r) s = .next (answered s r code .unknownCommand [])) ∧
  ∀ (c : Instr) (code : Byte) (len : Nat) (r : Record) (s : State),
    portRow c = some (code, len, r) → s.resetHeld = false → r.params.length ≠ len →
    exec c s = .next (answered s r code .badArgument [])

/-- The bytes clocked in pick the command: fewer than two, or code 0, carry none; fewer parameter bytes than the length byte
gives are a cut-short record; else the code names the row of R180's table, or none, the parameters are the bytes from offset
2, and the bytes beyond are ignored. Whatever the bytes, the command they carry clocks out as many: the returned frame, then
zeros. A transaction's command waits at the queue's tail (the model's: log entry 29). -/
def Obligations.BytesPickTheCommand : Prop :=
  (∀ (bytes : List Byte) (pins : Contacts),
    (bytes.length < 2 ∨ bytes.head? = some 0 → readTransaction bytes pins = .noCommandTransaction bytes) ∧
    ∀ code len rest, bytes = code :: len :: rest → code ≠ 0 →
      (rest.length < len.toNat → readTransaction bytes pins = .cutShortRecord code len rest) ∧
      (len.toNat ≤ rest.length →
        let r : Record := ⟨rest.take len.toNat, rest.drop len.toNat⟩
        (∀ c n, portRow c = some (code, n, r) → Brings c pins → readTransaction bytes pins = c) ∧
        (code.toNat ∉ [1, 2, 3, 4, 5, 6, 7, 16, 17, 18, 19, 20, 21, 32, 33, 48, 49, 50, 51, 52] →
          readTransaction bytes pins = .unknownCommandCode code r))) ∧
  ∀ (bytes : List Byte) (pins : Contacts) (s : State),
    (readTransaction bytes pins).wf = true ∧
    s.transact bytes pins = { s with pending := s.pending ++ [readTransaction bytes pins] } ∧
    (s.resetHeld = false → ∃ t, exec (readTransaction bytes pins) s = .next t ∧ t.dataOut.length = bytes.length ∧
      (s.mpt.ready = false → t.dataOut = List.replicate bytes.length 0) ∧
      ∀ p, s.mpt.ready = true → s.mpt.buffer = some p →
        t.dataOut =
          ([1, p.code, p.status.code, BitVec.ofNat 8 p.data.length] ++ p.data ++
            List.replicate bytes.length 0).take bytes.length)

/-- The six LOADs and START are refused WRONG_STATE outside CONFIG, and OUTLET OPEN, OUTLET CLOSE, REARM, SET BAND and
CLEAR COUNTERS outside RUN, whatever their parameters; nothing but the reply changes (and the contact levels that the
sender presents with the outlet commands). -/
def Obligations.WrongPhaseIsRefused : Prop :=
  ∀ (c : Instr) (code : Byte) (len : Nat) (r : Record) (s : State),
    portRow c = some (code, len, r) → s.resetHeld = false → r.params.length = len →
    (code.toNat ∈ [16, 17, 18, 19, 20, 21, 32] → s.mpt.phase ≠ .config →
      exec c s = .next (answered s r code .wrongState [])) ∧
    (code.toNat ∈ [51, 52] → s.mpt.phase ≠ .run → exec c s = .next (answered s r code .wrongState [])) ∧
    ∀ pins, c = .outletOpen r pins ∨ c = .outletClose r pins ∨ c = .rearm r pins → s.mpt.phase ≠ .run →
      exec c s = .next (answered { s with contacts := pins } r code .wrongState [])

/-- The coding of replies: the numbers of R179's statuses and of R181's enumerations; a number in its bytes, most significant
first; a signed number in two's complement; a flag as 1 or 0; an optional item behind its present byte; the returned frame
and the zeros after it. The codes and item order that R181 leaves to inference are the model's reading (log entry 15). -/
def Obligations.RepliesAreCodedByTheTables : Prop :=
  ([Status.ok, .wrongState, .badArgument, .badConfig, .busy, .queueFull, .unknownCommand].map Status.code =
      [0, 1, 2, 3, 4, 5, 6] ∧
    [Phase.config, .warmup, .run].map Phase.code = [0, 1, 2] ∧
    [Link.off, .listen, .active, .down, .silent].map Link.code = [0, 1, 2, 3, 4] ∧
    (∀ x : TenantState, x.code = BitVec.ofNat 8 (stateNumber x)) ∧
    (∀ x : ActionKind, x.code = BitVec.ofNat 8 (kindCode x)) ∧
    (∀ x : Origin, x.code = BitVec.ofNat 8 (originCode x)) ∧
    (∀ x : Completion, x.code = BitVec.ofNat 8 (completionCode x)) ∧
    (∀ x : FaultCause, x.code = if x = .timeout then 0 else 1) ∧
    (∀ x : CounterKind, x.code = if x = .energy then 0 else 1) ∧
    [OutletClass.contracted, .billed, .exempt].map OutletClass.code = [0, 1, 2]) ∧
  ([Position.closed, .opened].map Position.code = [0, 1] ∧
    [ShedReason.none, .tenant, .branch, .manual].map ShedReason.code = [0, 1, 2, 3] ∧
    [Actuator.enabled, .faulted].map Actuator.code = [0, 1] ∧
    [ReadingStatus.ok, .clipped].map ReadingStatus.code = [0, 1] ∧ [Lane.urgent, .standard].map Lane.code = [0, 1] ∧
    [NoteDirection.shed, .restore].map NoteDirection.code = [0, 1] ∧
    [BranchState.normal, .overload, .tripping, .shed].map BranchState.code = [0, 1, 2, 3]) ∧
  (∀ n : Nat, natBytes 1 n = [BitVec.ofNat 8 n] ∧ natBytes 2 n = [BitVec.ofNat 8 (n / 256), BitVec.ofNat 8 n] ∧
    natBytes 3 n = [BitVec.ofNat 8 (n / 65536), BitVec.ofNat 8 (n / 256), BitVec.ofNat 8 n] ∧
    natBytes 4 n =
      [BitVec.ofNat 8 (n / 16777216), BitVec.ofNat 8 (n / 65536), BitVec.ofNat 8 (n / 256), BitVec.ofNat 8 n]) ∧
  (∀ i : Int, -32768 ≤ i → i ≤ 32767 → ∃ hi lo : Byte, int16Bytes i = [hi, lo] ∧ (hi ++ lo).toInt = i) ∧
  (flagByte true = 1 ∧ flagByte false = 0) ∧
  (∀ (w : Nat) (f : Nat → List Byte) (x : Nat), optBytes w f (some x) = 1 :: f x ∧
    optBytes w f none = 0 :: List.replicate w 0) ∧
  ∀ (m : Mpt) (n : Nat),
    (m.ready = false → clockedOut n m.frame = List.replicate n 0) ∧
    ∀ p, m.ready = true → m.buffer = some p →
      clockedOut n m.frame =
        ([1, p.code, p.status.code, BitVec.ofNat 8 p.data.length] ++ p.data ++ List.replicate n 0).take n

/-! ### Reads -/

/-- READ STATUS replies with the phase, link state, tally count, receive-error count, transmit failure count, notice
count, lost flag, table occupancy and band, in that order, and then clears the lost flag; nothing else changes. -/
def Obligations.ReadStatusReportsAndClearsLost : Prop :=
  ∀ (r : Record) (s : State), s.resetHeld = false → r.params = [] →
    exec (.readStatus r) s =
      .next { answered s r 1 .ok
          ([s.mpt.phase.code, s.rlc.link.code] ++ natBytes 4 s.tly.count ++ natBytes 2 s.rlc.rxErrors ++
            natBytes 1 s.rlc.failures ++ natBytes 1 s.nq.queue.length ++ [flagByte s.nq.lost] ++
            natBytes 1 (allPlaces.filter fun i => (s.entry i).isSome).length ++ natBytes 1 s.osu.band.val) with
        nq := { s.nq with lost := false } }

/-- READ TENANT, READ OUTLET and READ BRANCH reply with the record's items in the order of their rules, each in the bytes
of R181, and change nothing but the reply; an index out of range is refused BAD_ARGUMENT. That a free slot's tenant ID
reads 0, that the settle timer's milliseconds are rounded up, and the codes and order R181 leaves to inference are the model's
(log entries 14, 24 and 15). -/
def Obligations.RecordReadsReport : Prop :=
  ∀ (b : Byte) (more : List Byte) (s : State), s.resetHeld = false →
    let r : Record := ⟨[b], more⟩
    (∀ k : SlotIx, k.val = b.toNat →
      exec (.readTenant r) s = .next (answered s r 2 .ok
        ([(s.slot k).state.code] ++ natBytes 3 (s.slot k).localDraw ++ natBytes 4 (s.slot k).aggregate ++
          natBytes 3 (s.slot k).contract ++ natBytes 4 (s.slot k).allowance ++ natBytes 4 (s.slot k).credit ++
          natBytes 4 (s.slot k).uncovered ++ natBytes 4 (s.slot k).lastTally ++
          natBytes 2 (s.tenant k).contractCode ++ natBytes 2 ((s.tenant k).tenantId.getD 0) ++
          natBytes 2 (((s.curSlot k).settle.map msLeft).getD 0) ++ natBytes 1 (s.curSlot k).hold ++
          [flagByte (s.curSlot k).uncurtailable] ++
          natBytes 4 (s.counters k).energy.count ++ natBytes 2 (s.counters k).energy.residue ++
          [flagByte (s.counters k).energy.overflow] ++
          natBytes 4 (s.counters k).overage.count ++ natBytes 2 (s.counters k).overage.residue ++
          [flagByte (s.counters k).overage.overflow] ++ natBytes 3 (s.counters k).lastAttributed))) ∧
    (∀ o : OutletIx, o.val = b.toNat →
      exec (.readOutlet r) s = .next (answered s r 3 .ok
        (let x := s.outlet o;
          optBytes 1 (fun k => natBytes 1 k.val) x.slot ++ [x.cls.code] ++ natBytes 1 x.rank.val ++
          natBytes 2 x.gains[0] ++ natBytes 2 x.gains[1] ++ natBytes 2 x.gains[2] ++ natBytes 2 x.gains[3] ++
          int16Bytes x.offset ++ [x.commanded.code, x.reason.code] ++
          optBytes 6 (fun d => natBytes 2 d.p ++ natBytes 2 d.s ++ natBytes 2 d.i) x.remembered ++
          [x.feedback.code, x.actuator.code] ++
          optBytes 6 (fun p => [p.action.kind.code, p.action.origin.code, p.action.lane.code] ++
            optBytes 1 (fun k => natBytes 1 k.val) p.action.slot ++ [flagByte p.inFlight]) (s.pendingFor o) ++
          natBytes 2 x.reading.draw.p ++ natBytes 2 x.reading.draw.s ++ natBytes 2 x.reading.draw.i ++
          [x.reading.status.code, flagByte x.reading.stale] ++ natBytes 1 x.reading.misses ++
          natBytes 1 x.countdown ++
          optBytes 1 (fun p => [if p = .opened then 0 else 1]) x.direction ++
          natBytes 4 x.energy.count ++ natBytes 2 x.energy.residue ++ [flagByte x.energy.overflow]))) ∧
    (∀ n : BranchIx, n.val = b.toNat →
      exec (.readBranch r) s = .next (answered s r 4 .ok
        (let x := s.branch n;
          natBytes 2 x.limit ++ natBytes 1 x.tripDelay ++ natBytes 1 x.restorePercent ++
          natBytes 1 x.restoreHold ++ [x.state.code] ++ natBytes 3 x.current ++ natBytes 1 x.overCount ++
          natBytes 1 x.holdCount ++ optBytes 1 (fun o => natBytes 1 o.val) x.tripped ++
          [flagByte x.unprotectable] ++
          natBytes 1 (allOutlets.filter fun o => o.val / 8 == n.val && (s.outlet o).reason == .branch).length))) ∧
    (16 ≤ b.toNat → exec (.readTenant r) s = .next (answered s r 2 .badArgument [])) ∧
    (48 ≤ b.toNat → exec (.readOutlet r) s = .next (answered s r 3 .badArgument [])) ∧
    (6 ≤ b.toNat → exec (.readBranch r) s = .next (answered s r 4 .badArgument []))

/-- READ CONTRIBUTION replies with the index read and what stands there, and moves the cursor on by one, from 135 to 0;
SET CURSOR puts it at an index 0..135 and is refused BAD_ARGUMENT otherwise. Nothing else changes. That an adjustment's
milliseconds left are rounded up, and the order and codes R181 leaves to inference, are the model's (log entries 24 and
15). -/
def Obligations.CursorWalksTheTable : Prop :=
  ∀ (s : State), s.resetHeld = false →
    (∀ (r : Record) (data : List Byte), r.params = [] →
      (∀ (i : PlaceIx) (e : DynEntry), i.val = s.mpt.cursor.val → s.entry i = some e →
        data =
          natBytes 1 i.val ++ [1] ++ natBytes 1 e.slot.val ++ natBytes 1 e.station ++
            natBytes 3 e.contribution ++ natBytes 2 e.code ++ [e.state.code] ++
            optBytes 3 (fun c => natBytes 1 c.rank ++ natBytes 2 c.draw) e.shed ++
            optBytes 3 (fun c => natBytes 1 c.rank ++ natBytes 2 c.draw) e.restore ++
            natBytes 1 e.age ++ natBytes 1 e.stamp ++ [flagByte e.mismatch] ++
            optBytes 5 (fun a => [a.direction.code] ++ natBytes 2 a.draw ++ natBytes 2 (msLeft a.left))
              e.adjustment) →
      (∀ (i : PlaceIx), i.val = s.mpt.cursor.val → s.entry i = none → data = natBytes 1 i.val ++ [0]) →
      (∀ (n : FixedIx) (e : FixedEntry), 128 + n.val = s.mpt.cursor.val → s.fixedEntry n = some e →
        data =
          natBytes 1 (128 + n.val) ++ [2] ++ natBytes 1 (n.val + 1) ++ natBytes 1 e.slot.val ++
            natBytes 3 e.contribution ++ optBytes 1 (natBytes 1) e.covers) →
      (∀ (n : FixedIx), 128 + n.val = s.mpt.cursor.val → s.fixedEntry n = none →
        data = natBytes 1 (128 + n.val) ++ [0]) →
      ∃ t, exec (.readContribution r) s = .next t ∧
        t = { answered s r 5 .ok data with mpt := { (answered s r 5 .ok data).mpt with cursor := t.mpt.cursor } } ∧
        t.mpt.cursor.val = (s.mpt.cursor.val + 1) % 136) ∧
    ∀ (b : Byte) (more : List Byte),
      (∀ i : Fin 136, i.val = b.toNat →
        exec (.setCursor ⟨[b], more⟩) s =
          .next (answered { s with mpt := { s.mpt with cursor := i } } ⟨[b], more⟩ 6 .ok [])) ∧
      (136 ≤ b.toNat →
        exec (.setCursor ⟨[b], more⟩) s = .next (answered s ⟨[b], more⟩ 6 .badArgument []))

/-- READ NOTICES removes the oldest notices, as many as n or as many as there are, and returns their number, their
12-byte records in order and the count left; a count outside 1..8 is refused BAD_ARGUMENT. The lost flag and all else
stay. A record is the kind's number, the stamp in four bytes and the fields of the kind, filled with zeros. -/
def Obligations.ReadNoticesTakesTheOldest : Prop :=
  (∀ (b : Byte) (more : List Byte) (s : State), s.resetHeld = false →
    (1 ≤ b.toNat ∧ b.toNat ≤ 8 →
      exec (.readNotices ⟨[b], more⟩) s =
        .next { answered s ⟨[b], more⟩ 7 .ok
            (natBytes 1 (min b.toNat s.nq.queue.length) ++ (s.nq.queue.take b.toNat).flatMap noticeRecord ++
              natBytes 1 (s.nq.queue.length - b.toNat)) with
          nq := { s.nq with queue := s.nq.queue.drop b.toNat } }) ∧
    (b.toNat = 0 ∨ 8 < b.toNat →
      exec (.readNotices ⟨[b], more⟩) s = .next (answered s ⟨[b], more⟩ 7 .badArgument []))) ∧
  ∀ n : Notice, n.bytes = noticeRecord n ∧ (noticeRecord n).length = 12

/-- Raising a notice: a kind disabled in the mask, bit k − 1 for kind number k, changes nothing; an enabled one joins the tail
with its stamp while fewer than 63 are held, and with 63 held it is discarded and the lost flag set. Its stamp is the tally
count of the moment unless its block works a completion with a count of its own. -/
def Obligations.NoticesQueueByMaskAndRoom : Prop :=
  ∀ (s : State) (stamp : Nat) (b : NoticeBody),
    let bit := s.station.kindMask.getLsbD (kindNumber b - 1)
    (1 ≤ kindNumber b ∧ kindNumber b ≤ 18 ∧ b.number = kindNumber b) ∧
    (bit = false → s.raiseAt stamp b = s) ∧
    (bit = true → s.nq.queue.length < 63 →
      s.raiseAt stamp b = { s with nq := ⟨s.nq.queue ++ [⟨stamp, b⟩], s.nq.lost⟩ }) ∧
    (bit = true → 63 ≤ s.nq.queue.length → s.raiseAt stamp b = { s with nq := ⟨s.nq.queue, true⟩ }) ∧
    s.raise b = s.raiseAt s.tly.count b

/-- The outputs. ATTN is asserted exactly while the count is at or above the threshold, and released while the pin is held. An
outlet's coil is driven toward a position exactly by the running pulse of an action in flight with that target, or by a pulse
toward it that a RESTART left running. The line carries the bytes of the frame on it. A started action drives its coil toward
its target alone, and RESTART changes no coil drive. -/
def Obligations.OutputsFollowTheState : Prop :=
  (∀ s : State,
    (s.resetHeld = false → (s.attn = true ↔ s.station.attnThreshold ≤ s.nq.queue.length)) ∧
    (s.resetHeld = true → s.attn = false) ∧
    (∀ o p, s.coilDriven o p = true ↔
      (∃ f left, s.rsq.inFlight = some f ∧ f.pulse = some left ∧ f.action.outlet = o ∧ targetOf f.action.kind = p) ∨
        ∃ left, (s.outlet o).residualPulse = some ⟨p, left⟩) ∧
    (s.rlc.onLine = none → s.lineBytes = none) ∧
    ∀ f, s.rlc.onLine = some f → s.lineBytes = some (frameBytes s.station.id f.content)) ∧
  (∀ (s : State) (a : Action) (p : Position), (s.outlet a.outlet).residualPulse = none →
    ((s.startAction a).coilDriven a.outlet p = true ↔ p = targetOf a.kind)) ∧
  ∀ (r : Record) (s : State), s.resetHeld = false → r.params = [] →
    (∀ f, s.rsq.inFlight = some f → (s.outlet f.action.outlet).residualPulse = none) →
    ∃ t, exec (.restart r) s = .next t ∧ ∀ o p, t.coilDriven o p = s.coilDriven o p

/-! ### Loads, in CONFIG -/

/-- LOAD STATION writes the nine station parameters when every field is in its range, and is refused BAD_ARGUMENT, changing
nothing, when any is not. -/
def Obligations.LoadStationWritesParameters : Prop :=
  ∀ (id x t sweeps gap auto band thr m2 m1 m0 : Byte) (more : List Byte) (s : State),
    s.resetHeld = false → s.mpt.phase = .config →
    let r : Record := ⟨[id, x, t, sweeps, gap, auto, band, thr, m2, m1, m0], more⟩
    let mask := m2.toNat * 65536 + m1.toNat * 256 + m0.toNat
    let inRange := id.toNat ≤ 63 ∧ (1 ≤ x.toNat ∧ x.toNat ≤ 8) ∧ (1 ≤ t.toNat ∧ t.toNat ≤ 15) ∧
      sweeps.toNat ≤ 15 ∧ auto.toNat ≤ 1 ∧ band.toNat ≤ 3 ∧ thr.toNat ∈ [1, 2, 4, 8, 16, 32] ∧ mask < 262144
    (∀ b : Band, b.val = band.toNat → inRange →
      exec (.loadStation r) s = .next (answered { s with station := {
        id := id.toNat
        exchange := x.toNat
        settleTallies := t.toNat
        settleSweeps := sweeps.toNat
        staggerGap := gap.toNat
        autoBand := decide (auto.toNat = 1)
        manualBand := b
        attnThreshold := thr.toNat
        kindMask := BitVec.ofNat 18 mask } } r 16 .ok [])) ∧
    (¬ inRange → exec (.loadStation r) s = .next (answered s r 16 .badArgument []))

/-- LOAD TENANT puts ID and parameters into the slot, or with ID 0 frees it, and is refused BAD_ARGUMENT when any field is
out of range. That the other fields are checked with ID 0 too is the model's reading (log entry 13). -/
def Obligations.LoadTenantWritesSlot : Prop :=
  ∀ (slot idH idL codeH codeL d mode allow rp hold : Byte) (more : List Byte) (s : State),
    s.resetHeld = false → s.mpt.phase = .config →
    let r : Record := ⟨[slot, idH, idL, codeH, codeL, d, mode, allow, rp, hold], more⟩
    let id := idH.toNat * 256 + idL.toNat
    let inRange := slot.toNat < 16 ∧ id ≤ 4095 ∧ mode.toNat ≤ 1 ∧ (50 ≤ rp.toNat ∧ rp.toNat ≤ 100) ∧
      1 ≤ hold.toNat ∧ hold.toNat ≤ 60
    (∀ k : SlotIx, k.val = slot.toNat → inRange →
      exec (.loadTenant r) s = .next (answered { s with tenants := s.tenants.set k.val (
        if id = 0 then ⟨none, 0, 0, .real, 0, 90, 5⟩
        else {
          tenantId := some id
          contractCode := codeH.toNat * 256 + codeL.toNat
          burst := d.toNat
          mode := if mode.toNat = 0 then .real else .apparent
          allowance := allow.toNat
          restorePercent := rp.toNat
          restoreHold := hold.toNat }) } r 17 .ok [])) ∧
    (¬ inRange → exec (.loadTenant r) s = .next (answered s r 17 .badArgument []))

/-- LOAD OUTLET writes slot, class and rank (an absent slot forces EXEMPT), LOAD CALIBRATION the four gains and the offset,
LOAD BRANCH the four fields of a branch, and LOAD FIXED a fixed entry, or clears it with the slot absent; each is refused
BAD_ARGUMENT, the record unchanged, when the index or any field is out of range. That the fields are checked with an absent
slot too is the model's reading (log entry 13). -/
def Obligations.RecordLoadsWriteTheirRecord : Prop :=
  ∀ (s : State), s.resetHeld = false → s.mpt.phase = .config →
    (∀ (n slot cls rank : Byte) (more : List Byte),
      let r : Record := ⟨[n, slot, cls, rank], more⟩
      let inRange := n.toNat < 48 ∧ (slot.toNat < 16 ∨ slot.toNat = 255) ∧ cls.toNat ≤ 2 ∧ rank.toNat ≤ 15
      (∀ (o : OutletIx) (q : Fin 16) (k : Option SlotIx),
        o.val = n.toNat → q.val = rank.toNat → (k.map Fin.val).getD 255 = slot.toNat → inRange →
        exec (.loadOutlet r) s = .next (answered { s with outlets := s.outlets.set o.val { s.outlet o with
          slot := k
          cls := if k = none ∨ cls.toNat = 2 then .exempt else if cls.toNat = 1 then .billed else .contracted
          rank := q } } r 18 .ok [])) ∧
      (¬ inRange → exec (.loadOutlet r) s = .next (answered s r 18 .badArgument []))) ∧
    (∀ (n g0 l0 g1 l1 g2 l2 g3 l3 oh ol : Byte) (more : List Byte),
      let r : Record := ⟨[n, g0, l0, g1, l1, g2, l2, g3, l3, oh, ol], more⟩
      let offset : Int := (oh ++ ol).toInt
      let inRange := n.toNat < 48 ∧ -512 ≤ offset ∧ offset ≤ 511
      (∀ o : OutletIx, o.val = n.toNat → inRange →
        exec (.loadCalibration r) s = .next (answered { s with outlets := s.outlets.set o.val { s.outlet o with
          gains := #v[g0.toNat * 256 + l0.toNat, g1.toNat * 256 + l1.toNat, g2.toNat * 256 + l2.toNat,
            g3.toNat * 256 + l3.toNat]
          offset := offset } } r 19 .ok [])) ∧
      (¬ inRange → exec (.loadCalibration r) s = .next (answered s r 19 .badArgument []))) ∧
    (∀ (n limH limL delay rp hold : Byte) (more : List Byte),
      let r : Record := ⟨[n, limH, limL, delay, rp, hold], more⟩
      let limit := limH.toNat * 256 + limL.toNat
      let inRange := n.toNat < 6 ∧ (1 ≤ limit ∧ limit ≤ 32000) ∧ (1 ≤ delay.toNat ∧ delay.toNat ≤ 15) ∧
        (50 ≤ rp.toNat ∧ rp.toNat ≤ 95) ∧ 10 ≤ hold.toNat ∧ hold.toNat ≤ 250
      (∀ b : BranchIx, b.val = n.toNat → inRange →
        exec (.loadBranch r) s = .next (answered { s with brm := { s.brm with
          branches := s.brm.branches.set b.val { s.branch b with
            limit := limit, tripDelay := delay.toNat, restorePercent := rp.toNat
            restoreHold := hold.toNat } } } r 20 .ok [])) ∧
      (¬ inRange → exec (.loadBranch r) s = .next (answered s r 20 .badArgument []))) ∧
    ∀ (n slot c2 c1 c0 covers : Byte) (more : List Byte),
      let r : Record := ⟨[n, slot, c2, c1, c0, covers], more⟩
      let inRange := (1 ≤ n.toNat ∧ n.toNat ≤ 8) ∧ (slot.toNat < 16 ∨ slot.toNat = 255) ∧ covers.toNat ≤ 63
      (∀ (i : FixedIx) (k : Option SlotIx), i.val + 1 = n.toNat → (k.map Fin.val).getD 255 = slot.toNat → inRange →
        exec (.loadFixed r) s = .next (answered { s with ctb := { s.ctb with
          fixed := s.ctb.fixed.set i.val (k.map fun k =>
            { slot := k
              contribution := c2.toNat * 65536 + c1.toNat * 256 + c0.toNat
              covers := if covers.toNat = 0 then none else some covers.toNat }) } } r 21 .ok [])) ∧
      (¬ inRange → exec (.loadFixed r) s = .next (answered s r 21 .badArgument []))

/-! ### Start-up -/

/-- START with a usable configuration enters WARMUP in one step: every relay adopted as sensed (but for a coil still
driven by a pulse from before a RESTART), the first sweep and its timer started, the link in LISTEN with the ANNOUNCE
queued, the aging timer started, the reply OK. -/
def Obligations.StartEntersWarmup : Prop :=
  ∀ (r : Record) (pins : Contacts) (s : State),
    s.resetHeld = false → s.mpt.phase = .config → r.params = [] →
    s.station.id ≠ 0 → (∃ k, s.inUse k = true) →
    (∀ j k, s.inUse j = true → s.inUse k = true → (s.tenant j).tenantId = (s.tenant k).tenantId → j = k) →
    (∀ o k, (s.outlet o).slot = some k → s.inUse k = true) →
    (∀ n e, s.fixedEntry n = some e → s.inUse e.slot = true ∧ e.covers ≠ some s.station.id) →
    ∃ t, exec (.start r pins) s = .next t ∧
      t = { s with
        contacts := pins
        dataOut := clockedOut (clocked r) s.mpt.frame
        outlets := t.outlets
        osu := (sweepStarted s).osu
        ctb := { s.ctb with timer := some (2 * s.station.exchange * 250000) }
        rlc := { s.rlc with
          link := .listen
          otherRun := s.rlc.otherRun ++ [⟨.announce (allSlots.filter s.inUse).length, 0⟩] }
        mpt := { s.mpt with phase := .warmup, buffer := some ⟨32, .ok, []⟩, ready := true } } ∧
      ∀ o, t.outlet o =
        if (s.outlet o).residualPulse.isSome then s.outlet o
        else if pins.getLsbD o.val then
          { s.outlet o with
            feedback := .closed, commanded := .closed, reason := .none, remembered := none, actuator := .enabled }
        else
          { s.outlet o with
            feedback := .opened, commanded := .opened, reason := .manual, actuator := .enabled
            remembered := some ((s.outlet o).remembered.getD (s.outlet o).reading.draw) }

/-- START refused BAD_CONFIG names the record of the first check that fails, and changes nothing but the reply: station ID
0; no slot in use; the first slot that repeats a lower slot's tenant ID; the first outlet that names a free slot; the first
fixed entry that names a free slot or covers the own station. -/
def Obligations.StartRefusedNamesFirstFailure : Prop :=
  ∀ (r : Record) (pins : Contacts) (s : State),
    s.resetHeld = false → s.mpt.phase = .config → r.params = [] →
    let refused (kind index : Byte) := exec (.start r pins) s = .next (answered s r 32 .badConfig [kind, index])
    let repeats (k : SlotIx) := s.inUse k = true ∧
      ∃ j, j < k ∧ s.inUse j = true ∧ (s.tenant j).tenantId = (s.tenant k).tenantId
    let namesFree (o : OutletIx) := ∃ k, (s.outlet o).slot = some k ∧ s.inUse k = false
    let badEntry (n : FixedIx) := ∃ e, s.fixedEntry n = some e ∧
      (s.inUse e.slot = false ∨ e.covers = some s.station.id)
    (s.station.id = 0 → refused 1 0) ∧
    (s.station.id ≠ 0 → (∀ k, s.inUse k = false) → refused 2 255) ∧
    (s.station.id ≠ 0 → ∀ k, repeats k → (∀ j, j < k → ¬ repeats j) → refused 2 (BitVec.ofNat 8 k.val)) ∧
    (s.station.id ≠ 0 → (∃ k, s.inUse k = true) → (∀ k, ¬ repeats k) →
      (∀ o, namesFree o → (∀ o', o' < o → ¬ namesFree o') → refused 3 (BitVec.ofNat 8 o.val)) ∧
      ((∀ o, ¬ namesFree o) →
        ∀ n, badEntry n → (∀ m, m < n → ¬ badEntry m) → refused 4 (BitVec.ofNat 8 (n.val + 1))))

/-- ENTER_RUN, once the eighth warm-up sweep is reported: RUN, a full credit for each contracted slot from the least code,
UNCONTRACTED for each in-use slot whose own code is 0 with TENANT_STATE in slot order, the tally timer at 1,000 ms, and the
link from LISTEN to ACTIVE. Before that report it changes nothing. -/
def Obligations.EnterRunFillsEveryCredit : Prop :=
  ∀ s : State, s.resetHeld = false →
    (s.mpt.phase = .warmup → s.osu.warmup = 8 →
      ∃ t, exec .enterRun s = .next t ∧
        t = { s with
          mpt := { s.mpt with phase := .run }
          tly := { s.tly with timer := some 250000, slots := t.tly.slots }
          rlc := { s.rlc with link := if s.rlc.link = .listen then .active else s.rlc.link }
          nq := raised s (stateNotices s t) } ∧
        ∀ k,
          (s.inUse k = false → t.slot k = s.slot k) ∧
          (s.inUse k = true → (s.tenant k).contractCode = 0 →
            t.slot k = { s.slot k with state := .uncontracted }) ∧
          (s.inUse k = true → (s.tenant k).contractCode ≠ 0 → ∀ c, IsLeastCode s k c →
            t.slot k = { s.slot k with
              contract := 100 * c
              allowance := 100 * c * (s.tenant k).burst
              credit := 100 * c * (s.tenant k).burst })) ∧
    (¬ (s.mpt.phase = .warmup ∧ s.osu.warmup = 8) → exec .enterRun s = .next s)

/-! ### Commands in RUN -/

/-- OUTLET OPEN in RUN by the outlet's standing: FAULTED, WRONG_STATE; serving with nothing pending, the OPEN appended, or
QUEUE_FULL with the lane full; with a CLOSE queued, that CLOSE superseded; with an OPEN pending, merged; with a CLOSE in
flight or a REARM pending, BUSY; shed, taken over as MANUAL; manually open, OK. The remembered draw is kept if present, else
stored. -/
def Obligations.OutletOpenActsByStanding : Prop :=
  ∀ (b : Byte) (more : List Byte) (pins : Contacts) (s : State) (o : OutletIx),
    s.resetHeld = false → s.mpt.phase = .run → o.val = b.toNat →
    let r : Record := ⟨[b], more⟩
    let x := s.outlet o
    let answers (u : State) (status : Status) :=
      exec (.outletOpen r pins) s = .next (answered { u with contacts := pins } r 48 status [])
    let opened : Vector Outlet 48 := s.outlets.set o.val { x with
      commanded := .opened, reason := .manual, remembered := some (x.remembered.getD (s.counted o)) }
    let appended (standard : List Action) (nq : Nq) :=
      let s₁ : State := { s with
        contacts := pins
        dataOut := clockedOut (clocked r) s.mpt.frame
        mpt := { s.mpt with ready := s.mpt.ready && decide (clocked r < s.mpt.frame.length) }
        outlets := opened
        rsq := { s.rsq with standard := standard ++ [⟨o, .openRelay, .manual, x.slot⟩] }
        nq := nq }
      exec (.outletOpen r pins) s = .next (s₁.choose.reply 48 .ok [])
    (x.actuator = .faulted → answers s .wrongState) ∧
    (x.actuator = .enabled →
      (x.reason = .manual → answers s .ok) ∧
      (x.reason = .tenant ∨ x.reason = .branch →
        answers { s with outlets := s.outlets.set o.val { x with reason := .manual } } .ok) ∧
      (x.reason = .none →
        (s.pendingFor o = none → s.rsq.standard.length < 32 → appended s.rsq.standard s.nq) ∧
        (s.pendingFor o = none → 32 ≤ s.rsq.standard.length → answers s .queueFull) ∧
        (∀ a, s.pendingFor o = some ⟨a, false⟩ → a.kind = .closeRelay → s.rsq.urgent.all (·.outlet != o) = true →
          s.rsq.standard.length ≤ 32 →
          appended (s.rsq.standard.filter fun c => c.outlet != o)
            (raised s [.actionDone a.outlet .closeRelay a.origin .superseded])) ∧
        (∀ p, s.pendingFor o = some p → p.action.kind = .openRelay → answers { s with outlets := opened } .ok) ∧
        (∀ a, s.pendingFor o = some ⟨a, true⟩ → a.kind = .closeRelay → answers s .busy) ∧
        (∀ p, s.pendingFor o = some p → p.action.kind = .rearm → answers s .busy)))

/-- OUTLET CLOSE in RUN: WRONG_STATE on a FAULTED outlet or one whose reason is not MANUAL; BUSY with an OPEN in flight;
otherwise a MANUAL CLOSE is appended, superseding a queued OPEN, the outlet commanded CLOSED with reason NONE and its draw
kept as the closing draw; QUEUE_FULL with the lane full. -/
def Obligations.OutletCloseActsByStanding : Prop :=
  ∀ (b : Byte) (more : List Byte) (pins : Contacts) (s : State) (o : OutletIx),
    s.resetHeld = false → s.mpt.phase = .run → o.val = b.toNat →
    let r : Record := ⟨[b], more⟩
    let x := s.outlet o
    let answers (u : State) (status : Status) :=
      exec (.outletClose r pins) s = .next (answered { u with contacts := pins } r 49 status [])
    let appended (urgent standard : List Action) (nq : Nq) :=
      let s₁ : State := { s with
        contacts := pins
        dataOut := clockedOut (clocked r) s.mpt.frame
        mpt := { s.mpt with ready := s.mpt.ready && decide (clocked r < s.mpt.frame.length) }
        outlets := s.outlets.set o.val { x with commanded := .closed, reason := .none }
        rsq := { s.rsq with urgent := urgent, standard := standard ++ [⟨o, .closeRelay, .manual, x.slot⟩] }
        nq := nq }
      exec (.outletClose r pins) s = .next (s₁.choose.reply 49 .ok [])
    (x.actuator = .faulted ∨ x.reason ≠ .manual → answers s .wrongState) ∧
    (x.actuator = .enabled → x.reason = .manual →
      (s.pendingFor o = none → s.rsq.standard.length < 32 → appended s.rsq.urgent s.rsq.standard s.nq) ∧
      (s.pendingFor o = none → 32 ≤ s.rsq.standard.length → answers s .queueFull) ∧
      (∀ a, s.pendingFor o = some ⟨a, false⟩ → a.kind = .openRelay →
        (s.rsq.standard.length < 32 ∨ a.lane = .standard ∧ s.rsq.standard.length = 32) →
        appended (s.rsq.urgent.filter fun c => c.outlet != o) (s.rsq.standard.filter fun c => c.outlet != o)
          (raised s [.actionDone a.outlet .openRelay a.origin .superseded])) ∧
      (∀ a, s.pendingFor o = some ⟨a, false⟩ → a.kind = .openRelay → a.lane = .urgent →
        32 ≤ s.rsq.standard.length → answers s .queueFull) ∧
      (∀ p, s.pendingFor o = some p → p.action.kind = .closeRelay →
        answers { s with outlets := s.outlets.set o.val { x with commanded := .closed, reason := .none } } .ok) ∧
      (∀ a, s.pendingFor o = some ⟨a, true⟩ → a.kind = .openRelay → answers s .busy) ∧
      (∀ p, s.pendingFor o = some p → p.action.kind = .rearm → answers s .busy))

/-- REARM in RUN: WRONG_STATE on an ENABLED outlet; on a FAULTED one merged with a pending REARM, else appended, with a
queued OPEN or CLOSE retired OUTLET_FAULTED at once and a CLOSE's closing draw cleared; QUEUE_FULL with the lane full. -/
def Obligations.RearmActsByStanding : Prop :=
  ∀ (b : Byte) (more : List Byte) (pins : Contacts) (s : State) (o : OutletIx),
    s.resetHeld = false → s.mpt.phase = .run → o.val = b.toNat →
    let r : Record := ⟨[b], more⟩
    let x := s.outlet o
    let answers (status : Status) :=
      exec (.rearm r pins) s = .next (answered { s with contacts := pins } r 50 status [])
    let appended (urgent standard : List Action) (y : Outlet) (nq : Nq) :=
      let s₁ : State := { s with
        contacts := pins
        dataOut := clockedOut (clocked r) s.mpt.frame
        mpt := { s.mpt with ready := s.mpt.ready && decide (clocked r < s.mpt.frame.length) }
        outlets := s.outlets.set o.val y
        rsq := { s.rsq with urgent := urgent, standard := standard ++ [⟨o, .rearm, .manual, x.slot⟩] }
        nq := nq }
      exec (.rearm r pins) s = .next (s₁.choose.reply 50 .ok [])
    (x.actuator = .enabled → answers .wrongState) ∧
    (x.actuator = .faulted →
      (s.pendingFor o = none → s.rsq.standard.length < 32 →
        appended s.rsq.urgent s.rsq.standard x s.nq) ∧
      (s.pendingFor o = none → 32 ≤ s.rsq.standard.length → answers .queueFull) ∧
      (∀ p, s.pendingFor o = some p → p.action.kind = .rearm → answers .ok) ∧
      (∀ a, s.pendingFor o = some ⟨a, false⟩ → a.kind ≠ .rearm →
        (s.rsq.urgent ++ s.rsq.standard).filter (fun c => c.outlet == o) = [a] →
        (s.rsq.standard.length < 32 ∨ a.lane = .standard ∧ s.rsq.standard.length = 32) →
        appended (s.rsq.urgent.filter fun c => c.outlet != o) (s.rsq.standard.filter fun c => c.outlet != o)
          (if a.kind = .closeRelay ∧ x.reason = .none then { x with remembered := none } else x)
          (raised s [.actionDone o a.kind a.origin .outletFaulted])) ∧
      (∀ a, s.pendingFor o = some ⟨a, false⟩ → a.kind ≠ .rearm → a.lane = .urgent →
        32 ≤ s.rsq.standard.length → answers .queueFull))

/-- An outlet index of 48 or more is refused BAD_ARGUMENT by OUTLET OPEN, OUTLET CLOSE and REARM; SET BAND sets the manual
band alone, and is refused WRONG_STATE with auto-retrieval on and BAD_ARGUMENT for a band above 3; CLEAR COUNTERS zeroes the
counters it names and no others, and is refused BAD_ARGUMENT for a target or index without meaning. -/
def Obligations.BandAndCountersInRun : Prop :=
  ∀ (s : State), s.resetHeld = false → s.mpt.phase = .run →
    (∀ (b : Byte) (more : List Byte) (pins : Contacts), 48 ≤ b.toNat →
      exec (.outletOpen ⟨[b], more⟩ pins) s =
        .next (answered { s with contacts := pins } ⟨[b], more⟩ 48 .badArgument []) ∧
      exec (.outletClose ⟨[b], more⟩ pins) s =
        .next (answered { s with contacts := pins } ⟨[b], more⟩ 49 .badArgument []) ∧
      exec (.rearm ⟨[b], more⟩ pins) s =
        .next (answered { s with contacts := pins } ⟨[b], more⟩ 50 .badArgument [])) ∧
    (∀ (b : Byte) (more : List Byte),
      (s.station.autoBand = true → exec (.setBand ⟨[b], more⟩) s = .next (answered s ⟨[b], more⟩ 51 .wrongState [])) ∧
      (s.station.autoBand = false →
        (∀ n : Band, n.val = b.toNat → exec (.setBand ⟨[b], more⟩) s =
          .next (answered { s with station := { s.station with manualBand := n } } ⟨[b], more⟩ 51 .ok [])) ∧
        (4 ≤ b.toNat → exec (.setBand ⟨[b], more⟩) s =
          .next (answered s ⟨[b], more⟩ 51 .badArgument [])))) ∧
    ∀ (target index : Byte) (more : List Byte),
      let r : Record := ⟨[target, index], more⟩
      (∀ o : OutletIx, target = 1 → o.val = index.toNat →
        exec (.clearCounters r) s = .next (answered
          { s with outlets := s.outlets.set o.val { s.outlet o with energy := ⟨0, 0, false⟩ } } r 52 .ok [])) ∧
      (∀ k : SlotIx, target = 2 → k.val = index.toNat →
        exec (.clearCounters r) s = .next (answered
          { s with ect := { s.ect with
              slots := s.ect.slots.set k.val ⟨⟨0, 0, false⟩, ⟨0, 0, false⟩, 0⟩ } } r 52 .ok [])) ∧
      (target = 3 → ∃ t, exec (.clearCounters r) s = .next (answered t r 52 .ok []) ∧
        t = { s with outlets := t.outlets, ect := { s.ect with slots := t.ect.slots } } ∧
        (∀ o, t.outlet o = { s.outlet o with energy := ⟨0, 0, false⟩ }) ∧
        ∀ k, t.counters k = ⟨⟨0, 0, false⟩, ⟨0, 0, false⟩, 0⟩) ∧
      (target = 1 ∧ 48 ≤ index.toNat ∨ target = 2 ∧ 16 ≤ index.toNat ∨ target = 0 ∨ 4 ≤ target.toNat →
        exec (.clearCounters r) s = .next (answered s r 52 .badArgument []))

/-! ### Metering -/

/-- SWEEP_TIMER_EXPIRY starts the next sweep when none is running, and otherwise leaves a sweep owed with the timer stopped;
with the timer already stopped there is no expiry. The sensor read of a sweep start ends: a temperature of −40.0 to 125.0 °C
keeps the band within its stay range and else moves it to the plain band, and clears the sensor-fail condition; any other end,
the 5 ms limit included, leaves the band and raises TEMP_SENSOR_FAIL at the first failure of a run. Then outlet 0 is
requested. -/
def Obligations.SweepStartSettlesItsBand : Prop :=
  (∀ s : State, s.resetHeld = false →
    (s.osu.sweepTimer = none → exec .sweepTimerExpiry s = .next s) ∧
    (s.osu.sweepTimer ≠ none → s.osu.stage = .idle → exec .sweepTimerExpiry s = .next (sweepStarted s)) ∧
    (s.osu.sweepTimer ≠ none → s.osu.stage ≠ .idle →
      exec .sweepTimerExpiry s = .next { s with osu := { s.osu with sweepTimer := none, owed := true } })) ∧
  ∀ (s : State) (n : Nat), s.resetHeld = false → s.osu.stage = .readingSensor n →
    let request (osu : Osu) (nq : Nq) : State :=
      { s with osu := { osu with scan := 0, stage := .requesting 375 }, nq := nq }
    let failed := request { s.osu with sensorFail := true }
      (if s.osu.sensorFail then s.nq else raised s [.tempSensorFail])
    (∀ (t : Int) (b : Band), -400 ≤ t → t ≤ 1250 →
      (inStayRange s.osu.band t → b = s.osu.band) → (¬ inStayRange s.osu.band t → IsPlainBand b t) →
      exec (.tempReadEnd (.temperature t)) s =
        .next (request { s.osu with sensorFail := false, band := b } s.nq)) ∧
    (∀ t : Int, t < -400 ∨ 1250 < t → exec (.tempReadEnd (.temperature t)) s = .next failed) ∧
    exec (.tempReadEnd .noAcknowledge) s = .next failed ∧
    exec .tempReadTimeout s = .next failed

/-- A visit of an outlet below 47 ends with its outcome and the next outlet is requested. A good reply makes the outlet fresh
(OUTLET_FRESH if it was stale) and in RUN, with its countdown at 0, replaces its reading by the calibrated counts. NO_RESPONSE,
by the 1.5 ms limit or another status, counts a miss, the fourth makes the outlet stale with OUTLET_STALE, and the values are
held. Either way the countdown falls. A late reply, and a reply or a limit with no request outstanding, changes nothing.
SETTLE_COUNTDOWN_END takes a countdown from 1 to 0 and clears a closing draw, that part of R34 on its own (log entry 18). -/
def Obligations.VisitsEndByTheirOutcome : Prop :=
  (∀ (s : State) (n : Nat) (rep : FrontEndReply) (o o' : OutletIx),
    s.resetHeld = false → s.osu.stage = .requesting n → s.osu.scan = o → o'.val = o.val + 1 → rep.status ≠ .other →
    exec (.readingReply rep) s =
      .next (nextRequest (visited s o (readingAfterReply s o rep) (freshNotice s o)) o')) ∧
  (∀ (s : State) (n : Nat) (rep : FrontEndReply) (o o' : OutletIx),
    s.resetHeld = false → s.osu.stage = .requesting n → s.osu.scan = o → o'.val = o.val + 1 →
    let t := nextRequest (visited s o (readingAfterSilence (s.outlet o)) (staleNotice s o)) o'
    exec .readingTimeout s = .next t ∧ (rep.status = .other → exec (.readingReply rep) s = .next t)) ∧
  ∀ (s : State) (rep : FrontEndReply), s.resetHeld = false →
    exec (.lateReply rep) s = .next s ∧
    ((∀ n, s.osu.stage ≠ .requesting n) →
      exec (.readingReply rep) s = .next s ∧ exec .readingTimeout s = .next s) ∧
    ∀ o : OutletIx,
      ((s.outlet o).countdown = 1 →
        exec (.settleCountdownEnd o) s =
          .next { s with outlets := s.outlets.set o.val (afterVisit (s.outlet o) (s.outlet o).reading) }) ∧
      ((s.outlet o).countdown ≠ 1 → exec (.settleCountdownEnd o) s = .next s)

/-- The visit of outlet 47 completes the sweep: in WARMUP the warm-up count rises to at most 8, in RUN the completion goes
to the branch monitor and the sequencer, and an owed sweep starts at once. -/
def Obligations.SweepCompletionGoesByPhase : Prop :=
  ∀ (s : State) (n : Nat) (rep : FrontEndReply),
    s.resetHeld = false → s.osu.stage = .requesting n → s.osu.scan = 47 →
    exec .readingTimeout s =
      .next (sweepCompleted (visited s 47 (readingAfterSilence (s.outlet 47)) (staleNotice s 47))) ∧
    (rep.status = .other → exec (.readingReply rep) s =
      .next (sweepCompleted (visited s 47 (readingAfterSilence (s.outlet 47)) (staleNotice s 47)))) ∧
    (rep.status ≠ .other → exec (.readingReply rep) s =
      .next (sweepCompleted (visited s 47 (readingAfterReply s 47 rep) (freshNotice s 47))))

/-! ### Reconciliation -/

/-- The counted draw is the first of four cases: an OPEN pending, 0; a CLOSE pending, the remembered draw; the countdown
above 0, by the last direction; otherwise the reading through a closed relay and 0 through an open one. The remembered draw,
where absent, is the reading. A REARM is neither an OPEN nor a CLOSE. The outlet counts as energised by the same cases. -/
def Obligations.CountedDrawHasFourCases : Prop :=
  ∀ (s : State) (o : OutletIx),
    let x := s.outlet o
    let held := x.remembered.getD x.reading.draw
    let idle := ∀ p, s.pendingFor o = some p → p.action.kind = .rearm
    let counts (d : Draw) (on : Bool) := s.counted o = d ∧ s.energised o = on
    (∀ p, s.pendingFor o = some p → p.action.kind = .openRelay → counts ⟨0, 0, 0⟩ false) ∧
    (∀ p, s.pendingFor o = some p → p.action.kind = .closeRelay → counts held true) ∧
    (idle → 0 < x.countdown → x.direction = some .opened → counts ⟨0, 0, 0⟩ false) ∧
    (idle → 0 < x.countdown → x.direction = some .closed → counts held true) ∧
    (idle → x.countdown = 0 → x.feedback = .closed → counts x.reading.draw true) ∧
    (idle → x.countdown = 0 → x.feedback = .opened → counts ⟨0, 0, 0⟩ false)

/-- An outlet's pending action is the one action for it in the lanes or in flight. -/
def Obligations.PendingActionIsTheOneHeld : Prop :=
  ∀ (s : State) (o : OutletIx), LanesHold s →
    (∀ f, s.rsq.inFlight = some f → f.action.outlet = o → s.pendingFor o = some ⟨f.action, true⟩) ∧
    (∀ a, a ∈ s.rsq.urgent ∨ a ∈ s.rsq.standard → a.outlet = o → s.pendingFor o = some ⟨a, false⟩) ∧
    ((∀ a ∈ heldActions s, a.outlet ≠ o) → s.pendingFor o = none)

/-- TALLY_TIMER_EXPIRY: the timer starts again at 1,000 ms, the count rises by 1 and wraps, every in-use slot's record is
computed by R44 to R54 (a slot whose own code is 0 stops after the aggregate), TENANT_STATE is raised in slot order for each
change, and the completion is handed to the three blocks. -/
def Obligations.TallyComputesEverySlot : Prop :=
  ∀ (s : State) (left : Nat), s.resetHeld = false → s.tly.timer = some left →
    let n := (s.tly.count + 1) % 4294967296
    ∃ t, exec .tallyTimerExpiry s = .next t ∧
      t = { s with
        tly := { timer := some 250000, count := n, slots := t.tly.slots }
        ect := { s.ect with tallies := s.ect.tallies ++ [n] }
        cur := { s.cur with tallies := s.cur.tallies ++ [n] }
        rlc := { s.rlc with tallies := s.rlc.tallies ++ [n] }
        nq := raisedAll s.station n (stateNotices s t) s.nq } ∧
      ∀ k,
        (s.inUse k = false → t.slot k = s.slot k) ∧
        (s.inUse k = true → (s.tenant k).contractCode = 0 →
          t.slot k = ⟨.uncontracted, localOf s k, aggregateFrom s k, 0, 0, 0, 0, n⟩) ∧
        (s.inUse k = true → (s.tenant k).contractCode ≠ 0 → TalliedAs s k n (t.slot k))

/-! ### Energy and overage -/

/-- ECT_TALLY_COMPLETION takes the oldest completion: each outlet's counter gains its P through a closed relay, each in-use
slot's energy counter the sum over its CONTRACTED and BILLED outlets, its overage counter floor(U × L / A), every sum
carried at 36,000 and wrapped at 2^32 with the flag set and COUNTER_WRAP raised in the order of the work, stamped with the
completion's count. Nothing else changes. From a record a tally stored, the attributed overage exceeds neither U nor L. -/
def Obligations.EnergyCompletionAccounts : Prop :=
  (∀ (s : State) (n : Nat) (rest : List Nat), s.resetHeld = false → s.ect.tallies = n :: rest →
    ∃ t, exec .ectTallyCompletion s = .next t ∧
      t = { s with
        outlets := t.outlets
        ect := { slots := t.ect.slots, tallies := rest }
        nq := raisedAll s.station n (wrapNotices s) s.nq } ∧
      (∀ o, t.outlet o = { s.outlet o with energy := addedTo (s.outlet o).energy (energyOf (s.outlet o)) }) ∧
      ∀ k, t.counters k = accounted s k) ∧
  ∀ (s : State) (k : SlotIx), (s.tenant k).contractCode ≠ 0 →
    overageOf (s.tallyRecord k) ≤ (s.tallyRecord k).uncovered ∧
      overageOf (s.tallyRecord k) ≤ (s.tallyRecord k).localDraw

/-! ### Curtailment -/

/-- The own shed candidate is the outlet R102 chooses and the own restore candidate the outlet R110 chooses, each with its
rank and its draw; there is none exactly when no outlet meets the conditions. A remembered draw that is absent counts 0, the
model's choice for a standing no run reaches (log entry 17). -/
def Obligations.OwnCandidatesAreChosenByRank : Prop :=
  ∀ (s : State) (k : SlotIx),
    (∀ c, s.ownShed k = some c ↔
      IsOwnShed s k c.outlet ∧ c.rank = (s.outlet c.outlet).rank.val ∧
        c.draw = inMode (s.tenant k).mode (s.counted c.outlet)) ∧
    (s.ownShed k = none ↔ ∀ o, ¬ MayShed s k o) ∧
    (∀ c, s.ownRestore k = some c ↔
      IsOwnRestore s k c.outlet ∧ c.rank = (s.outlet c.outlet).rank.val ∧ c.draw = rememberedValue s k c.outlet) ∧
    (s.ownRestore k = none ↔ ∀ o, ¬ MayRestore s k o)

/-- CUR_TALLY_COMPLETION takes the oldest completion and works the slots in ascending order, each by curtailSlot with the
completion's tally count; with none waiting only the contact levels change. A free or UNCONTRACTED slot is passed over;
with the settle timer running the hold counter becomes 0; a slot in WITHIN or BURST is only brought up to date. That each slot
reads the outlet records with what the sequencer's choices made for lower slots have changed is the model's choice (log entry
35). -/
def Obligations.CurtailmentWorksSlotsInOrder : Prop :=
  (∀ (s : State) (pins : Contacts), s.resetHeld = false →
    (s.cur.tallies = [] → exec (.curTallyCompletion pins) s = .next { s with contacts := pins }) ∧
    ∀ n rest, s.cur.tallies = n :: rest →
      exec (.curTallyCompletion pins) s = .next
        ((List.finRange 16).foldl (fun u k => u.curtailSlot n k)
          { s with contacts := pins, cur := { s.cur with tallies := rest } })) ∧
  ∀ (s : State) (k : SlotIx) (n : Nat),
    let c := s.curSlot k
    let st := (s.slot k).state
    (s.inUse k = false ∨ st = .uncontracted → s.curtailSlot n k = s) ∧
    (s.inUse k = true → st ≠ .uncontracted → c.settle ≠ none →
      s.curtailSlot n k = withItems s k c.settle 0 (c.uncurtailable && decide (st = .overdrawn))) ∧
    (s.inUse k = true → st = .within ∨ st = .burst ∨ st = .idle → c.settle = none →
      s.curtailSlot n k = withItems s k none 0 false)

/-- The shed election of an OVER slot with its settle timer stopped: with no candidate in view, UNCURTAILABLE once; with a
peer's candidate first, nothing; with the own candidate first, the outlet commanded OPEN with reason TENANT and its draw
stored, the OPEN appended, the NOTE, SHED_ELECTED and the settle timer at T; with the standard lane full, nothing. That SHED_ELECTED
comes before the notices of the choice made in the same step is the model's (log entry 16), and that those carry the
completion's count too is read from R172 (log entry 28). -/
def Obligations.ShedElectionTakesTheFirst : Prop :=
  ∀ (s : State) (k : SlotIx) (n : Nat),
    s.inUse k = true → (s.slot k).state = .overdrawn → (s.curSlot k).settle = none →
    let flag := (s.curSlot k).uncurtailable
    let x (o : OutletIx) := s.outlet o
    ((∀ o, ¬ MayShed s k o) → (∀ e, EntryInView s k e → e.shed = none) →
      s.curtailSlot n k = { withItems s k none 0 true with
        nq := if flag then s.nq else raisedAll s.station n [.uncurtailable k] s.nq }) ∧
    (∀ e c, EntryInView s k e → e.shed = some c →
      (∀ o, IsOwnShed s k o → shedsFirst c.rank e.station (x o).rank.val s.station.id) →
      s.curtailSlot n k = withItems s k none 0 flag) ∧
    ∀ o, IsOwnShed s k o →
      (∀ e c, EntryInView s k e → e.shed = some c → ¬ shedsFirst c.rank e.station (x o).rank.val s.station.id) →
      (s.rsq.standard.length < 32 → ∀ id, (s.tenant k).tenantId = some id →
        let draw := inMode (s.tenant k).mode (s.counted o)
        s.curtailSlot n k = (elected s k o
          { x o with commanded := .opened, reason := .tenant, remembered := some (s.counted o) } .openRelay
          (.note id .shed (x o).rank.val draw (s.tly.count % 256)) n
          (.shedElected k o (x o).rank.val draw) flag).chooseAt n) ∧
      (32 ≤ s.rsq.standard.length → s.curtailSlot n k = withItems s k none 0 flag)

/-- The restore test and election of a RECOVERY slot with its settle timer stopped: with no best candidate, or with A and
its draw above floor(C × R / 100), the hold counter becomes 0; otherwise it rises, to at most H. At H a peer's best
candidate is waited for; the own one is commanded CLOSED with reason NONE and its draw kept, the CLOSE appended, the NOTE,
RESTORE_ELECTED, the settle timer at T and the hold counter at 0; with the standard lane full, nothing. That RESTORE_ELECTED
comes before the notices of the choice made in the same step and that an absent remembered draw counts 0 are the model's (log
entries 16 and 17), and that those notices carry the completion's count too is read from R172 (log entry 28). -/
def Obligations.RestoreElectionTakesTheBest : Prop :=
  ∀ (s : State) (k : SlotIx) (n : Nat),
    s.inUse k = true → (s.slot k).state = .recovery → (s.curSlot k).settle = none →
    let x (o : OutletIx) := s.outlet o
    let top := (s.tenant k).restoreHold
    let hold := min ((s.curSlot k).hold + 1) top
    let fits (draw : Nat) :=
      (s.slot k).aggregate + draw ≤ (s.slot k).contract * (s.tenant k).restorePercent / 100
    let bestOwn (o : OutletIx) := IsOwnRestore s k o ∧ ∀ e c, EntryInView s k e → e.restore = some c →
      ¬ restoresFirst c.rank e.station (x o).rank.val s.station.id
    let bestPeer (draw : Nat) := ∃ e c, EntryInView s k e ∧ e.restore = some c ∧ c.draw = draw ∧
      (∀ o, IsOwnRestore s k o → restoresFirst c.rank e.station (x o).rank.val s.station.id) ∧
      ∀ e' c', EntryInView s k e' → e'.restore = some c' → e' = e ∨ restoresFirst c.rank e.station c'.rank e'.station
    ((∀ o, ¬ MayRestore s k o) → (∀ e, EntryInView s k e → e.restore = none) →
      s.curtailSlot n k = withItems s k none 0 false) ∧
    (∀ draw, bestPeer draw →
      (fits draw → s.curtailSlot n k = withItems s k none hold false) ∧
      (¬ fits draw → s.curtailSlot n k = withItems s k none 0 false)) ∧
    ∀ o, bestOwn o →
      (¬ fits (rememberedValue s k o) → s.curtailSlot n k = withItems s k none 0 false) ∧
      (fits (rememberedValue s k o) → hold < top → s.curtailSlot n k = withItems s k none hold false) ∧
      (fits (rememberedValue s k o) → hold = top → 32 ≤ s.rsq.standard.length →
        s.curtailSlot n k = withItems s k none top false) ∧
      (fits (rememberedValue s k o) → hold = top → s.rsq.standard.length < 32 →
        ∀ id, (s.tenant k).tenantId = some id →
          s.curtailSlot n k = (elected s k o { x o with commanded := .closed, reason := .none } .closeRelay
            (.note id .restore (x o).rank.val (rememberedValue s k o) (s.tly.count % 256)) n
            (.restoreElected k o (x o).rank.val (rememberedValue s k o)) false).chooseAt n)

/-- CTB_NOTE and CUR_NOTE take the oldest NOTE: ignored from a covered station, it sets the entry's adjustment with T seconds,
if there is an entry, and starts the slot's settle timer at T, whatever its direction. PENDING_ADJUSTMENT_EXPIRY removes the
adjustment alone and SETTLE_TIMER_EXPIRY stops the slot's timer alone, unless a NOTE of the same moment has replaced what ran
out: then the new one stays. So a NOTE and the expiry of the same moment, in either order, leave T seconds from the NOTE. The
mark by which the model knows that moment is its own (log entry 32), and an expiry is taken whatever time is left (2). -/
def Obligations.NotesAndTheirTimers : Prop :=
  ∀ (s : State), s.resetHeld = false →
    (∀ i : PlaceIx, ∃ t, exec (.pendingAdjustmentExpiry i) s = .next t ∧
      t = { s with ctb := { s.ctb with dyn := t.ctb.dyn } } ∧
      ∀ j, t.entry j = if j = i then (s.entry i).map fun e =>
          match e.adjustment with
          | some a => { e with adjustment := if a.oldDue then some { a with oldDue := false } else none }
          | none => e
        else s.entry j) ∧
    (∀ k : SlotIx, exec (.settleTimerExpiry k) s = .next (withSlotItems s k
      (if (s.curSlot k).oldDue then { s.curSlot k with oldDue := false } else { s.curSlot k with settle := none }))) ∧
    (s.ctb.notes = [] → exec .ctbNote s = .next s) ∧
    (∀ n rest, s.ctb.notes = n :: rest → ∃ t, exec .ctbNote s = .next t ∧
      t = { s with ctb := { s.ctb with notes := rest, dyn := t.ctb.dyn } } ∧
      (s.covered n.slot n.station = true → ∀ j, t.entry j = s.entry j) ∧
      (s.covered n.slot n.station = false →
        (∀ i j e f, s.entry i = some e → s.entry j = some f → e.slot = f.slot → e.station = f.station → i = j) →
        ∀ j, t.entry j = (s.entry j).map fun e =>
          if e.slot = n.slot ∧ e.station = n.station then adjustedBy e n (s.station.settleTallies * 250000) else e)) ∧
    (∀ n rest i e a, s.ctb.notes = n :: rest → s.covered n.slot n.station = false → s.entry i = some e →
      e.slot = n.slot → e.station = n.station → e.adjustment = some a → a.left ≤ 1 →
      (∀ j f, s.entry j = some f → f.slot = n.slot → f.station = n.station → j = i) →
      ∃ t u, exec .ctbNote s = .next t ∧ exec (.pendingAdjustmentExpiry i) t = .next u ∧
        u.entry i =
          some { e with adjustment := some ⟨n.direction, n.draw, s.station.settleTallies * 250000, false⟩ } ∧
        ∀ v w, a.oldDue = false → exec (.pendingAdjustmentExpiry i) s = .next v → exec .ctbNote v = .next w → u = w) ∧
    (s.cur.notes = [] → exec .curNote s = .next s) ∧
    ∀ n rest, s.cur.notes = n :: rest →
      let popped : State := { s with cur := { s.cur with notes := rest } }
      exec .curNote s = .next (
        if s.covered n.slot n.station then popped
        else settleStarted popped n.slot (s.station.settleTallies * 250000)) ∧
      (s.covered n.slot n.station = false → lastTick (s.curSlot n.slot).settle = true →
        ∃ t u, exec .curNote s = .next t ∧ exec (.settleTimerExpiry n.slot) t = .next u ∧
          (u.curSlot n.slot).settle = some (s.station.settleTallies * 250000) ∧
          ∀ v w, (s.curSlot n.slot).oldDue = false → exec (.settleTimerExpiry n.slot) s = .next v →
            exec .curNote v = .next w → u = w)

/-! ### The Contribution Table -/

/-- AGING_TIMER_EXPIRY starts the timer again at 2 × X seconds and ages every entry in use: 0 to 1, 1 to 2, and an entry of
age 2 is removed with PEER_EXPIRED, in ascending order of index, clearing the table-full condition. -/
def Obligations.AgingStepsEveryEntry : Prop :=
  ∀ s : State, s.resetHeld = false →
    (s.ctb.timer = none → exec .agingTimerExpiry s = .next s) ∧
    ((∀ i e, s.entry i = some e → e.age ≤ 2) → s.ctb.timer ≠ none →
      let expired := allPlaces.filterMap fun i =>
        match s.entry i with
        | some e => if e.age = 2 then some (NoticeBody.peerExpired e.slot e.station) else none
        | none => none
      ∃ t, exec .agingTimerExpiry s = .next t ∧
        t = { s with
          ctb := { s.ctb with
            timer := some (2 * s.station.exchange * 250000)
            dyn := t.ctb.dyn
            full := s.ctb.full && expired.isEmpty }
          nq := raised s expired } ∧
        ∀ i, t.entry i =
          match s.entry i with
          | some e => if e.age = 2 then none else some { e with age := e.age + 1 }
          | none => none)

/-- Learning one summary entry: from a covered station it is ignored; an entry with its key is refreshed in place; else the
free place of lowest index takes a new one; with no place free it is refused, with TABLE_FULL at the first refusal. Every
creation and refresh makes the contract-mismatch check; that it clears the report where both codes are 0 is the model's choice
(log entry 38). -/
def Obligations.SummaryEntryIsLearned : Prop :=
  ∀ (s : State) (station stamp : Nat) (k : SlotIx) (e : SummaryEntry),
    let isKey (i : PlaceIx) := ∃ d, s.entry i = some d ∧ d.slot = k ∧ d.station = station
    let covered := ∃ n f, s.fixedEntry n = some f ∧ f.slot = k ∧ f.covers = some station
    (covered → s.learn station stamp k e = s) ∧
    (¬ covered →
      (∀ i d, s.entry i = some d → d.slot = k → d.station = station → (∀ j, isKey j → j = i) →
        s.learn station stamp k e = storedChecked s i (learnt k station stamp d.mismatch e)) ∧
      ((∀ i, ¬ isKey i) →
        (∀ i, s.entry i = none → (∀ j, s.entry j = none → i ≤ j) →
          s.learn station stamp k e = storedChecked s i (learnt k station stamp false e)) ∧
        ((∀ i, s.entry i ≠ none) →
          s.learn station stamp k e = { s with
            ctb := { s.ctb with full := true }
            nq := if s.ctb.full then s.nq else raised s [.tableFull k station] })))

/-! ### The row link -/

/-- RLC_TALLY_COMPLETION takes the oldest completion; when its count is a multiple of X and the link is ACTIVE or DOWN,
every segment is built from the in-use slots in ascending order, the first eight in segment 0 and the rest in segment 1,
the last-segment flag set in the last, and handed to the transmit queue; otherwise, and with no slot in use, nothing is
built. -/
def Obligations.SummariesFollowTallies : Prop :=
  ∀ s : State, s.resetHeld = false →
    (s.rlc.tallies = [] → exec .rlcTallyCompletion s = .next s) ∧
    ∀ n rest, s.rlc.tallies = n :: rest →
      let popped : Rlc := { s.rlc with tallies := rest }
      let used := allSlots.filter s.inUse
      let due := n % s.station.exchange = 0 ∧ (s.rlc.link = .active ∨ s.rlc.link = .down)
      let segment (i : Nat) (last : Bool) (slots : List SlotIx) : FrameContent :=
        .summary (s.tly.count % 256) i last (slots.map (summaryOf s))
      (¬ due ∨ used = [] → exec .rlcTallyCompletion s = .next { s with rlc := popped }) ∧
      (due → 1 ≤ used.length → used.length ≤ 8 → exec .rlcTallyCompletion s =
        .next { s with rlc := popped.putSummary 0 (segment 0 true used) }) ∧
      (due → 8 < used.length → exec .rlcTallyCompletion s =
        .next { s with rlc :=
          (popped.putSummary 0 (segment 0 false (used.take 8))).putSummary 1 (segment 1 true (used.drop 8)) })

/-- The transmit queue: a SUMMARY replaces a queued one of its index in place, else joins the tail if there is room, else is
discarded; a NOTE joins the NOTE run, evicting the oldest waiting SUMMARY or ANNOUNCE from a full queue, else is discarded;
a frame back from the line goes to the front of its run, unless a newer SUMMARY of its index waits. That a try of DOWN whose
frame is evicted goes to the new head is the model's choice (log entry 33). -/
def Obligations.TransmitQueueRules : Prop :=
  ∀ (r : Rlc) (c : FrameContent),
    let room := r.onLine.toList.length + r.noteRun.length + r.otherRun.length < 8
    let waits (i : Nat) := ∃ f ∈ r.otherRun, f.segment = some i
    (∀ i pre f post, r.otherRun = pre ++ f :: post → f.segment = some i →
      (∀ g ∈ pre ++ post, g.segment ≠ some i) →
      r.putSummary i c = { r with otherRun := pre ++ ⟨c, 0⟩ :: post }) ∧
    (∀ i, ¬ waits i → room → r.putSummary i c = { r with otherRun := r.otherRun ++ [⟨c, 0⟩] }) ∧
    (∀ i, ¬ waits i → ¬ room → r.putSummary i c = r) ∧
    (room → r.putNote c = { r with noteRun := r.noteRun ++ [⟨c, 0⟩] }) ∧
    (∀ oldest rest, ¬ room → r.otherRun = oldest :: rest →
      r.putNote c = { r with otherRun := rest, noteRun := r.noteRun ++ [⟨c, 0⟩], tryOther := false }) ∧
    (¬ room → r.otherRun = [] → r.putNote c = r) ∧
    ∀ f : TxFrame,
      (f.content.cls = 0 → r.putBack f = { r with noteRun := f :: r.noteRun }) ∧
      (f.content.cls = 2 → r.putBack f = { r with otherRun := f :: r.otherRun }) ∧
      ∀ i, f.segment = some i →
        (waits i → r.putBack f = r) ∧ (¬ waits i → r.putBack f = { r with otherRun := f :: r.otherRun })

/-- Transmission: on an idle line the head goes on the line in LISTEN and ACTIVE, and in DOWN under a try the frame that was at
the head at the retry timer's expiry; a lost arbitration returns it with its counts, and the try goes on with the new head; a
success removes it, zeroes the failure count and brings DOWN back to ACTIVE with LINK_UP; a failure counts, ends the try,
returns the frame unless it is the fourth, and the sixteenth in ACTIVE brings DOWN with LINK_DOWN and the retry timer; an expiry
of that timer allows a try when a frame is queued and no try is under way. The mark tryOther, by which a SUMMARY or ANNOUNCE at
the head at the expiry goes ahead of the NOTEs that join after it, is the model's own (log entry 33); that a try still without an
idle line at the next expiry is under way, its frame kept, is the model's choice (log entry 36). -/
def Obligations.TransmissionMovesTheQueue : Prop :=
  ∀ s : State, s.resetHeld = false →
    let free := s.rlc.onLine = none ∧
      (s.rlc.link = .listen ∨ s.rlc.link = .active ∨ s.rlc.link = .down ∧ s.rlc.tryOn = true)
    (¬ free → exec .contendOnIdleLine s = .next s) ∧
    (free →
      (s.rlc.noteRun = [] → s.rlc.otherRun = [] → exec .contendOnIdleLine s = .next s) ∧
      (∀ f rest, s.rlc.noteRun = f :: rest → s.rlc.tryOther = false ∨ s.rlc.otherRun = [] →
        exec .contendOnIdleLine s =
          .next { s with rlc := { s.rlc with noteRun := rest, onLine := some f, tryOther := false } }) ∧
      ∀ f rest, s.rlc.otherRun = f :: rest → s.rlc.tryOther = true ∨ s.rlc.noteRun = [] →
        exec .contendOnIdleLine s =
          .next { s with rlc := { s.rlc with otherRun := rest, onLine := some f, tryOther := false } }) ∧
    (s.rlc.onLine = none →
      exec .arbitrationLost s = .next s ∧ exec .transmitSuccess s = .next s ∧ exec .transmitFailure s = .next s) ∧
    (∀ f, s.rlc.onLine = some f →
      let off : Rlc := { s.rlc with onLine := none }
      let count := min (s.rlc.failures + 1) 16
      let failed : Rlc :=
        let r : Rlc := { off with tryOn := false, tryOther := false, failures := count }
        if f.attempts < 3 then r.putBack ⟨f.content, f.attempts + 1⟩ else r
      exec .arbitrationLost s = .next { s with rlc := off.putBack f } ∧
      (s.rlc.link ≠ .down → exec .transmitSuccess s = .next { s with rlc := { off with failures := 0 } }) ∧
      (s.rlc.link = .down → exec .transmitSuccess s = .next { s with
        rlc := { off with failures := 0, link := .active, retry := none, tryOn := false, tryOther := false }
        nq := raised s [.linkUp] }) ∧
      (s.rlc.link = .active → count = 16 → exec .transmitFailure s = .next { s with
        rlc := { failed with link := .down, retry := some 1250000 }
        nq := raised s [.linkDown] }) ∧
      (s.rlc.link ≠ .active ∨ count < 16 → exec .transmitFailure s = .next { s with rlc := failed })) ∧
    (s.rlc.retry = none → exec .retryTimerExpiry s = .next s) ∧
    (s.rlc.retry ≠ none → s.rlc.tryOn = true →
      exec .retryTimerExpiry s = .next { s with rlc := { s.rlc with retry := some 1250000 } }) ∧
    (s.rlc.retry ≠ none → s.rlc.tryOn = false → exec .retryTimerExpiry s = .next { s with rlc := { s.rlc with
      retry := some 1250000
      tryOn := decide (s.rlc.onLine ≠ none ∨ s.rlc.noteRun ≠ [] ∨ s.rlc.otherRun ≠ [])
      tryOther := decide (s.rlc.onLine = none ∧ s.rlc.noteRun = [] ∧ s.rlc.otherRun ≠ []) } })

/-- FRAME_RECEIVED: nothing is read in OFF, nor checked while this station drove beyond the key or has its own frame on the
line (that last is the model's reading, log entry 21: such a frame is neither checked nor counted); a frame with a bad stop bit
or one that fails a check is dropped and counted, to at most 65,535. A valid frame with the own ID brings LISTEN, ACTIVE and
DOWN to SILENT with DUPLICATE_STATION and an empty queue; an ANNOUNCE does nothing; a SUMMARY's entries are learned in
order, also ahead of a NOTE of the same sender that still waits (the model's choice, log entry 34); a NOTE for a tenant served
here goes to the CTB and to the CUR. -/
def Obligations.FrameReceptionByKind : Prop :=
  ∀ (f : LineFrame) (s : State), s.resetHeld = false →
    let read := s.rlc.link ≠ .off ∧ f.droveBeyondKey = false ∧ s.rlc.onLine = none
    let counted : State := { s with rlc := { s.rlc with rxErrors := min (s.rlc.rxErrors + 1) 65535 } }
    (¬ read → exec (.frameReceived f) s = .next s) ∧
    (read → f.stopBitsGood = false → exec (.frameReceived f) s = .next counted) ∧
    (read → parseFrame f.bytes = none → exec (.frameReceived f) s = .next counted) ∧
    ∀ station c, read → f.stopBitsGood = true → parseFrame f.bytes = some (station, c) →
      (station = s.station.id →
        (s.rlc.link = .silent → exec (.frameReceived f) s = .next s) ∧
        (s.rlc.link ≠ .silent → exec (.frameReceived f) s = .next { s with
          rlc := { s.rlc with
            link := .silent, noteRun := [], otherRun := [], retry := none, tryOn := false, tryOther := false }
          nq := raised s [.duplicateStation] })) ∧
      (station ≠ s.station.id →
        (∀ n, c = .announce n → exec (.frameReceived f) s = .next s) ∧
        (∀ stamp i last entries, c = .summary stamp i last entries →
          exec (.frameReceived f) s = .next (entries.foldl (fun u e =>
            match allSlots.find? fun k => (u.tenant k).tenantId == some e.tenantId with
            | some k => u.learn station stamp k e
            | none => u) s)) ∧
        ∀ id d rank draw stamp, c = .note id d rank draw stamp →
          ((∀ k, (s.tenant k).tenantId ≠ some id) → exec (.frameReceived f) s = .next s) ∧
          ∀ k, (s.tenant k).tenantId = some id → (∀ j, (s.tenant j).tenantId = some id → j = k) →
            exec (.frameReceived f) s = .next { s with
              ctb := { s.ctb with notes := s.ctb.notes ++ [⟨k, station, d, rank, draw, stamp⟩] }
              cur := { s.cur with notes := s.cur.notes ++ [⟨k, station, d, rank, draw, stamp⟩] } })

/-- Frames as bytes: every content within its ranges, from a station 1..63, is read back as it was built, and every byte
string that passes the reception checks is exactly the frame of a station 1..63 with content within its ranges. The bytes
themselves are FramesHaveTheirBytes'. -/
def Obligations.FramesReadBackAsBuilt : Prop :=
  (∀ (station : Nat) (c : FrameContent), 1 ≤ station → station ≤ 63 → ContentInRange c →
    parseFrame (frameBytes station c) = some (station, c)) ∧
  ∀ (bytes : List Byte) (station : Nat) (c : FrameContent), parseFrame bytes = some (station, c) →
    1 ≤ station ∧ station ≤ 63 ∧ ContentInRange c ∧ bytes = frameBytes station c

/-- The bytes of each frame: key with class and station ID, the fields of ANNOUNCE, NOTE and SUMMARY most significant byte
first, and the CRC high byte first, a register of 16 bits from 0xFFFF into which each byte goes most significant bit first,
shifted left and exclusive-ored with 0x1021 when the bit that leaves differs from the data bit. Fed with a whole frame the
register ends at 0, and with the bytes 0x31 to 0x39 at 0x29B1. -/
def Obligations.FramesHaveTheirBytes : Prop :=
  (∀ (station slots : Nat), frameBytes station (.announce slots) =
    withCrc [BitVec.ofNat 8 (128 + station), BitVec.ofNat 8 slots]) ∧
  (∀ (station id : Nat) (d : NoteDirection) (rank draw stamp : Nat), frameBytes station (.note id d rank draw stamp) =
    withCrc [BitVec.ofNat 8 station, BitVec.ofNat 8 (id / 256), BitVec.ofNat 8 id,
      BitVec.ofNat 8 ((if d = .restore then 128 else 0) + rank), BitVec.ofNat 8 (draw / 256), BitVec.ofNat 8 draw,
      BitVec.ofNat 8 stamp]) ∧
  (∀ (station stamp segment : Nat) (last : Bool) (entries : List SummaryEntry),
    frameBytes station (.summary stamp segment last entries) =
      withCrc ([BitVec.ofNat 8 (64 + station), BitVec.ofNat 8 stamp,
        BitVec.ofNat 8 ((if last then 128 else 0) + segment * 16 + entries.length)] ++ entries.flatMap entryAs)) ∧
  (∀ body : List Byte, crcFrom 0xFFFF (bitsOf (withCrc body)) = 0) ∧
  crcFrom 0xFFFF (bitsOf [0x31, 0x32, 0x33, 0x34, 0x35, 0x36, 0x37, 0x38, 0x39]) = 0x29B1

/-! ### Branch protection -/

/-- BRM_SWEEP_COMPLETION takes a completion and works the branches in ascending order; with none waiting only the contact
levels change. Each branch stores the sum of its counted currents and steps by R125 and R128: over or not over the limit,
the trip test at the trip delay with no branch action pending, the restore test in SHED, and TRIPPING left when the tripped
outlet has no branch action pending and no countdown. That each branch reads the outlets and lanes with what the sequencer's
choices made for lower branches have changed is the model's choice (log entry 37). -/
def Obligations.BranchStateFollowsCurrent : Prop :=
  (∀ (s : State) (pins : Contacts), s.resetHeld = false →
    (s.brm.sweeps = 0 → exec (.brmSweepCompletion pins) s = .next { s with contacts := pins }) ∧
    (0 < s.brm.sweeps → exec (.brmSweepCompletion pins) s = .next
      ((List.finRange 6).foldl (fun u b => u.stepBranch b)
        { s with contacts := pins, brm := { s.brm with sweeps := s.brm.sweeps - 1 } }))) ∧
  ∀ (s : State) (b : BranchIx),
    let x : Branch := { s.branch b with current := currentOf s b }
    let isOver := x.limit < currentOf s b
    let tested (y : Branch) :=
      (y.overCount = y.tripDelay → ¬ BranchBusy s b → s.stepBranch b = (withBranch s b y).trip b) ∧
      (y.overCount ≠ y.tripDelay ∨ BranchBusy s b → s.stepBranch b = withBranch s b y)
    let finished := ∀ o, x.tripped = some o → ¬ BranchActionFor s o ∧ (s.outlet o).countdown = 0
    (x.state = .normal →
      (isOver → tested { x with state := .overload, overCount := 1 }) ∧
      (¬ isOver → s.stepBranch b = withBranch s b x)) ∧
    (x.state = .shed →
      (isOver → tested { x with state := .overload, overCount := 1, holdCount := 0 }) ∧
      (¬ isOver → branchShed s b = 0 → s.stepBranch b = withBranch s b { x with state := .normal, holdCount := 0 }) ∧
      (¬ isOver → branchShed s b ≠ 0 → s.stepBranch b = (withBranch s b x).branchRestoreTest b)) ∧
    (x.state = .overload →
      (isOver → tested { x with overCount := min (x.overCount + 1) x.tripDelay }) ∧
      (¬ isOver → s.stepBranch b = withBranch s b { x with
        state := if branchShed s b = 0 then .normal else .shed, overCount := 0, unprotectable := false })) ∧
    (x.state = .tripping →
      (¬ finished → s.stepBranch b = withBranch s b x) ∧
      (finished → isOver → s.stepBranch b =
        withBranch s b { x with state := .overload, overCount := x.tripDelay, tripped := none }) ∧
      (finished → ¬ isOver → branchShed s b = 0 → s.stepBranch b =
        withBranch s b { x with state := .normal, overCount := 0, tripped := none, unprotectable := false }) ∧
      (finished → ¬ isOver → branchShed s b ≠ 0 → s.stepBranch b =
        (withBranch s b { x with
          state := .shed, overCount := 0, tripped := none, unprotectable := false }).branchRestoreTest b))

/-- A trip: with no candidate, BRANCH_UNPROTECTABLE once; with a CLOSE in flight, a REARM or an OPEN pending for the candidate,
or the urgent lane full, nothing; otherwise the candidate is commanded OPEN with reason BRANCH, its draw stored, the BRANCH OPEN
appended to the urgent lane over a queued CLOSE, BRANCH_TRIP raised, and the branch in TRIPPING with it. That BRANCH_TRIP comes
before the notices of the choice made in the same step is the model's (log entry 16). -/
def Obligations.TripOpensTheCandidate : Prop :=
  ∀ (s : State) (b : BranchIx),
    ((∀ o, ¬ MayTrip s b o) → s.trip b = { withBranch s b { s.branch b with unprotectable := true } with
      nq := if (s.branch b).unprotectable then s.nq else raised s [.branchUnprotectable b] }) ∧
    ∀ o, IsTripCandidate s b o →
      let x := s.outlet o
      let tripped (standard : List Action) (bodies : List NoticeBody) : State :=
        { withBranch s b { s.branch b with state := .tripping, tripped := some o } with
          outlets := s.outlets.set o.val { x with
            commanded := .opened, reason := .branch, remembered := some (s.counted o) }
          rsq := { s.rsq with urgent := s.rsq.urgent ++ [⟨o, .openRelay, .branch, x.slot⟩], standard := standard }
          nq := raised s (bodies ++ [.branchTrip b o]) }
      (s.pendingFor o = none → s.rsq.urgent.length < 8 → s.trip b = (tripped s.rsq.standard []).choose) ∧
      (∀ a, s.pendingFor o = some ⟨a, false⟩ → a.kind = .closeRelay → s.rsq.urgent.length < 8 →
        s.rsq.urgent.all (fun c => c.outlet != o) = true →
        s.trip b = (tripped (s.rsq.standard.filter fun c => c.outlet != o)
          [.actionDone o .closeRelay a.origin .superseded]).choose) ∧
      (∀ a, s.pendingFor o = some ⟨a, true⟩ → a.kind = .closeRelay → s.trip b = s) ∧
      (∀ p, s.pendingFor o = some p → p.action.kind ≠ .closeRelay → s.trip b = s) ∧
      (s.pendingFor o = none → 8 ≤ s.rsq.urgent.length → s.trip b = s) ∧
      ∀ a, s.pendingFor o = some ⟨a, false⟩ → a.kind = .closeRelay → 8 ≤ s.rsq.urgent.length → s.trip b = s

/-- The branch restore test: with no candidate, or the test failing, the hold count becomes 0; otherwise it rises, to at
most the restore hold, and there the candidate is commanded CLOSED with reason NONE, its draw kept, the BRANCH CLOSE
appended to the standard lane and the hold count 0; with the lane full it stays at the restore hold. A remembered draw that
is absent counts 0, the model's choice for a standing no run reaches (log entry 17). -/
def Obligations.BranchRestoreNeedsRoom : Prop :=
  ∀ (s : State) (b : BranchIx),
    let x := s.branch b
    let hold := min (x.holdCount + 1) x.restoreHold
    let held (n : Nat) := withBranch s b { x with holdCount := n }
    ((∀ o, ¬ MayBranchRestore s b o) → s.branchRestoreTest b = held 0) ∧
    ∀ o, IsBranchRestore s b o →
      (¬ BranchTestPasses s b o → s.branchRestoreTest b = held 0) ∧
      (BranchTestPasses s b o →
        (hold < x.restoreHold → s.branchRestoreTest b = held hold) ∧
        (hold = x.restoreHold → 32 ≤ s.rsq.standard.length → s.branchRestoreTest b = held hold) ∧
        (hold = x.restoreHold → s.rsq.standard.length < 32 → s.branchRestoreTest b =
          ({ held 0 with
            outlets := s.outlets.set o.val { s.outlet o with commanded := .closed, reason := .none }
            rsq := { s.rsq with
              standard := s.rsq.standard ++ [⟨o, .closeRelay, .branch, (s.outlet o).slot⟩] } } : State).choose))

/-! ### Relay actuation -/

/-- The choice: nothing while an action is in flight or both lanes are empty; the urgent head first, else the standard head,
unless it is a CLOSE for an ENABLED outlet while the stagger timer runs. An OPEN or CLOSE for an ENABLED outlet starts; one
for a FAULTED outlet is retired OUTLET_FAULTED and a REARM is completed, and the choice is made again. Each ACTION_DONE carries
the stamp the choice is made with: the tally count, and within the work of a tally completion the count the completion carries
(R172; log entry 28). STAGGER_TIMER_EXPIRY stops the timer and makes the choice. -/
def Obligations.ChoiceTakesTheHead : Prop :=
  (∀ (s : State) (pins : Contacts), s.resetHeld = false →
    (s.rsq.stagger = none → exec (.staggerTimerExpiry pins) s = .next { s with contacts := pins }) ∧
    (s.rsq.stagger ≠ none → exec (.staggerTimerExpiry pins) s =
      .next ({ s with contacts := pins, rsq := { s.rsq with stagger := none } } : State).choose)) ∧
  (∀ s : State, s.choose = s.chooseAt s.tly.count) ∧
  ∀ (s : State) (n : Nat),
    (s.rsq.inFlight ≠ none → s.chooseAt n = s) ∧
    (s.rsq.urgent = [] → s.rsq.standard = [] → s.chooseAt n = s) ∧
    (∀ a rest, s.rsq.inFlight = none → s.rsq.urgent = [] → s.rsq.standard = a :: rest → a.kind = .closeRelay →
      (s.outlet a.outlet).actuator = .enabled → s.rsq.stagger ≠ none → s.chooseAt n = s) ∧
    ∀ a urgent standard, s.rsq.inFlight = none →
      (s.rsq.urgent = a :: urgent ∧ s.rsq.standard = standard ∨
        s.rsq.urgent = [] ∧ urgent = [] ∧ s.rsq.standard = a :: standard ∧
          ¬ (a.kind = .closeRelay ∧ (s.outlet a.outlet).actuator = .enabled ∧ s.rsq.stagger ≠ none)) →
      (a.kind = .rearm → s.chooseAt n = (rearmed n s a urgent standard).chooseAt n) ∧
      (a.kind ≠ .rearm → (s.outlet a.outlet).actuator = .faulted →
        s.chooseAt n = (retiredFaulted n s a urgent standard).chooseAt n) ∧
      (a.kind ≠ .rearm → (s.outlet a.outlet).actuator = .enabled → s.chooseAt n = started s a urgent standard)

/-- The ends of an operation: the target sensed after the pulse retires the action DONE, and during the pulse is noted for
the pulse's end; the pulse's end retires it DONE when the target has been sensed; the window's end retires it
FEEDBACK_TIMEOUT unless the target has been sensed or is sensed then: DONE then too, at the pulse's end if the pulse is still
driven (log entry 19). The next choice follows each retirement. PULSE_END_ADOPTION ends a pulse left
running by a RESTART: after CONFIG the outlet is adopted from its contact, in CONFIG the result is not recorded (log entry
20). -/
def Obligations.OperationsAreRetired : Prop :=
  (∀ (s : State) (pins : Contacts), s.resetHeld = false →
    let seen : State := { s with contacts := pins }
    (s.rsq.inFlight = none →
      exec (.feedbackTargetSensed pins) s = .next seen ∧ exec (.coilPulseEnd pins) s = .next seen ∧
        exec (.feedbackWindowTimeout pins) s = .next seen) ∧
    ∀ f, s.rsq.inFlight = some f →
      (∀ c : Contacts,
        (∀ o : OutletIx, c.getLsbD o.val =
          if o = f.action.outlet then decide (targetOf f.action.kind = .closed) else pins.getLsbD o.val) →
        (f.pulse = none → exec (.feedbackTargetSensed pins) s =
          .next (retiredDone { s with contacts := c } f.action).choose) ∧
        (f.pulse ≠ none → exec (.feedbackTargetSensed pins) s =
          .next { s with contacts := c, rsq := { s.rsq with inFlight := some { f with targetSeen := true } } })) ∧
      (f.pulse = none → exec (.coilPulseEnd pins) s = .next seen) ∧
      (f.pulse ≠ none → f.targetSeen = true ∨ seen.sensed f.action.outlet = targetOf f.action.kind →
        exec (.coilPulseEnd pins) s = .next (retiredDone seen f.action).choose) ∧
      (f.pulse ≠ none → f.targetSeen = false → seen.sensed f.action.outlet ≠ targetOf f.action.kind →
        exec (.coilPulseEnd pins) s =
          .next { seen with rsq := { s.rsq with inFlight := some { f with pulse := none } } }) ∧
      (f.targetSeen = true ∨ seen.sensed f.action.outlet = targetOf f.action.kind →
        (f.pulse = none → exec (.feedbackWindowTimeout pins) s = .next (retiredDone seen f.action).choose) ∧
        (f.pulse ≠ none → exec (.feedbackWindowTimeout pins) s =
          .next { seen with rsq := { s.rsq with inFlight := some { f with targetSeen := true } } })) ∧
      (f.targetSeen = false → seen.sensed f.action.outlet ≠ targetOf f.action.kind →
        exec (.feedbackWindowTimeout pins) s = .next (retiredTimeout seen f.action).choose)) ∧
  ∀ (s : State) (pins : Contacts) (o : OutletIx), s.resetHeld = false →
    let seen : State := { s with contacts := pins }
    let x := { s.outlet o with residualPulse := none }
    ((s.outlet o).residualPulse = none → exec (.pulseEndAdoption o pins) s = .next seen) ∧
    ((s.outlet o).residualPulse ≠ none → s.mpt.phase = .config →
      exec (.pulseEndAdoption o pins) s = .next { seen with outlets := s.outlets.set o.val x }) ∧
    ((s.outlet o).residualPulse ≠ none → s.mpt.phase ≠ .config →
      exec (.pulseEndAdoption o pins) s =
        .next { seen with outlets := s.outlets.set o.val (adoptedAs x (seen.sensed o)) })

/-- MISMATCH_CHECK takes a sweep completion and, for every outlet with no action in flight, writes the sensed position as
its feedback; an ENABLED outlet found away from its expected position becomes FAULTED, with OUTLET_FAULT, cause
SPONTANEOUS, in ascending outlet order. Nothing else changes. -/
def Obligations.MismatchCheckFaultsStrays : Prop :=
  ∀ (s : State) (pins : Contacts), s.resetHeld = false →
    let seen : State := { s with contacts := pins }
    (s.rsq.sweeps = 0 → exec (.mismatchCheck pins) s = .next seen) ∧
    (0 < s.rsq.sweeps → ∃ t, exec (.mismatchCheck pins) s = .next t ∧
      t = { seen with
        outlets := t.outlets
        rsq := { s.rsq with sweeps := s.rsq.sweeps - 1 }
        nq := raised s (allOutlets.filterMap fun o =>
          if (s.outlet o).actuator = .enabled ∧ (t.outlet o).actuator = .faulted then
            some (.outletFault o .spontaneous)
          else none) } ∧
      ∀ o,
        ((∃ f, s.rsq.inFlight = some f ∧ f.action.outlet = o) → t.outlet o = s.outlet o) ∧
        (¬ (∃ f, s.rsq.inFlight = some f ∧ f.action.outlet = o) →
          (FoundAway s o (seen.sensed o) →
            t.outlet o = { s.outlet o with feedback := seen.sensed o, actuator := .faulted }) ∧
          (¬ FoundAway s o (seen.sensed o) → t.outlet o = { s.outlet o with feedback := seen.sensed o })))

/-! ### Invariants of every step -/

/-- The state after reset satisfies every invariant below. -/
def Obligations.ResetMeetsEveryInvariant : Prop :=
  NoticesBounded State.reset ∧ StandingsHold State.reset ∧ ReadingsInRange State.reset ∧
    CountersInRange State.reset ∧ CreditsBounded State.reset ∧ BranchLaw State.reset ∧ BranchesHold State.reset ∧
    LinkHolds State.reset ∧ TableHolds State.reset ∧ PhaseGates State.reset ∧ ConfigInRange State.reset ∧
    TableInRange State.reset ∧ RuntimeInRange State.reset

/-- Every step keeps the notice count at most 63, every reading, counter and credit in its range, every configured parameter
and every figure of the Contribution Table in its range; and with those, every settle countdown, remembered draw, tally count,
slot record, settle timer, hold counter, last attributed figure, and every branch's current and counts. -/
def Obligations.StepKeepsFiguresInRange : Prop :=
  ∀ s t : State, step s = .next t →
    (NoticesBounded s → NoticesBounded t) ∧ (ReadingsInRange s → ReadingsInRange t) ∧
      (CountersInRange s → CountersInRange t) ∧ (CreditsBounded s → CreditsBounded t) ∧
      (ConfigInRange s → ConfigInRange t) ∧ (TableInRange s → TableInRange t) ∧
      (ConfigInRange s → TableInRange s → ReadingsInRange s → CreditsBounded s → RuntimeInRange s → RuntimeInRange t)

/-- Every step keeps R8's four standings: the reason is NONE exactly when the outlet is commanded CLOSED, and a shed outlet
has a remembered draw; and it keeps each branch's hold count at 0 outside SHED, and a tripped outlet of its own exactly in
TRIPPING. -/
def Obligations.StepKeepsStandingsAndBranchRecords : Prop :=
  ∀ s t : State, step s = .next t → (StandingsHold s → StandingsHold t) ∧ (BranchesHold s → BranchesHold t)

/-- Every step keeps at most one action for each outlet, the lanes in their kinds and capacities, no FAULTED outlet in
flight, and at most one branch-origin action for each branch. -/
def Obligations.StepKeepsOneActionPerOutletAndBranch : Prop :=
  ∀ s t : State, step s = .next t → BranchLaw s → BranchLaw t

/-- Every step keeps the transmit queue's bounds, its two runs, one waiting SUMMARY of each index, an empty queue in OFF and
SILENT, and the link OFF in CONFIG; and the retry timer running exactly in DOWN, a try under way in DOWN alone and whenever a
frame is on the line there, and a try for a waiting SUMMARY or ANNOUNCE with one to send (the mark of that is log entry 33's). -/
def Obligations.StepKeepsTransmitQueue : Prop :=
  ∀ s t : State, step s = .next t → LinkHolds s → LinkHolds t

/-- Every step keeps the Contribution Table without two entries of one key, an entry of the own station or an entry for a
covered station, its ages at most 2, and empty in CONFIG. -/
def Obligations.StepKeepsContributionTable : Prop :=
  ∀ s t : State, step s = .next t → TableHolds s → TableHolds t

/-- Every step keeps what the phases gate: outside RUN no tally timer, no completion waiting and no action held; in CONFIG
no sweep, no aging and the link OFF; and no held TENANT or BRANCH OPEN is for a protected outlet of rank 15. -/
def Obligations.StepKeepsPhaseGates : Prop :=
  ∀ s t : State, step s = .next t → PhaseGates s → PhaseGates t
end

