-- ==== Sys2Proof/Laws/State.lean ====
section
/-! SUPPORT. What each update of State leaves in each field, and each accessor after each update. -/

namespace Sys2Proof.Machine

/-! ### setOutlet -/

section
variable (s : State) (o : OutletIx) (x : Outlet)

@[simp] theorem State.setOutlet_resetHeld : (s.setOutlet o x).resetHeld = s.resetHeld := rfl
@[simp] theorem State.setOutlet_contacts : (s.setOutlet o x).contacts = s.contacts := rfl
@[simp] theorem State.setOutlet_dataOut : (s.setOutlet o x).dataOut = s.dataOut := rfl
@[simp] theorem State.setOutlet_station : (s.setOutlet o x).station = s.station := rfl
@[simp] theorem State.setOutlet_tenants : (s.setOutlet o x).tenants = s.tenants := rfl
@[simp] theorem State.setOutlet_osu : (s.setOutlet o x).osu = s.osu := rfl
@[simp] theorem State.setOutlet_tly : (s.setOutlet o x).tly = s.tly := rfl
@[simp] theorem State.setOutlet_ctb : (s.setOutlet o x).ctb = s.ctb := rfl
@[simp] theorem State.setOutlet_rlc : (s.setOutlet o x).rlc = s.rlc := rfl
@[simp] theorem State.setOutlet_cur : (s.setOutlet o x).cur = s.cur := rfl
@[simp] theorem State.setOutlet_brm : (s.setOutlet o x).brm = s.brm := rfl
@[simp] theorem State.setOutlet_rsq : (s.setOutlet o x).rsq = s.rsq := rfl
@[simp] theorem State.setOutlet_ect : (s.setOutlet o x).ect = s.ect := rfl
@[simp] theorem State.setOutlet_mpt : (s.setOutlet o x).mpt = s.mpt := rfl
@[simp] theorem State.setOutlet_nq : (s.setOutlet o x).nq = s.nq := rfl
@[simp] theorem State.setOutlet_pending : (s.setOutlet o x).pending = s.pending := rfl
@[simp] theorem State.setOutlet_tenant (j : SlotIx) : (s.setOutlet o x).tenant j = s.tenant j := rfl
@[simp] theorem State.setOutlet_slot (j : SlotIx) : (s.setOutlet o x).slot j = s.slot j := rfl
@[simp] theorem State.setOutlet_curSlot (j : SlotIx) : (s.setOutlet o x).curSlot j = s.curSlot j := rfl
@[simp] theorem State.setOutlet_branch (c : BranchIx) : (s.setOutlet o x).branch c = s.branch c := rfl
@[simp] theorem State.setOutlet_counters (j : SlotIx) : (s.setOutlet o x).counters j = s.counters j := rfl
@[simp] theorem State.setOutlet_entry (j : PlaceIx) : (s.setOutlet o x).entry j = s.entry j := rfl
@[simp] theorem State.setOutlet_fixedEntry (j : FixedIx) : (s.setOutlet o x).fixedEntry j = s.fixedEntry j := rfl
@[simp] theorem State.setOutlet_inUse (j : SlotIx) : (s.setOutlet o x).inUse j = s.inUse j := rfl
@[simp] theorem State.setOutlet_pendingFor (p : OutletIx) : (s.setOutlet o x).pendingFor p = s.pendingFor p := rfl

end

/-! ### setSlot -/

section
variable (s : State) (k : SlotIx) (x : SlotRuntime)

@[simp] theorem State.setSlot_resetHeld : (s.setSlot k x).resetHeld = s.resetHeld := rfl
@[simp] theorem State.setSlot_contacts : (s.setSlot k x).contacts = s.contacts := rfl
@[simp] theorem State.setSlot_dataOut : (s.setSlot k x).dataOut = s.dataOut := rfl
@[simp] theorem State.setSlot_station : (s.setSlot k x).station = s.station := rfl
@[simp] theorem State.setSlot_tenants : (s.setSlot k x).tenants = s.tenants := rfl
@[simp] theorem State.setSlot_outlets : (s.setSlot k x).outlets = s.outlets := rfl
@[simp] theorem State.setSlot_osu : (s.setSlot k x).osu = s.osu := rfl
@[simp] theorem State.setSlot_ctb : (s.setSlot k x).ctb = s.ctb := rfl
@[simp] theorem State.setSlot_rlc : (s.setSlot k x).rlc = s.rlc := rfl
@[simp] theorem State.setSlot_cur : (s.setSlot k x).cur = s.cur := rfl
@[simp] theorem State.setSlot_brm : (s.setSlot k x).brm = s.brm := rfl
@[simp] theorem State.setSlot_rsq : (s.setSlot k x).rsq = s.rsq := rfl
@[simp] theorem State.setSlot_ect : (s.setSlot k x).ect = s.ect := rfl
@[simp] theorem State.setSlot_mpt : (s.setSlot k x).mpt = s.mpt := rfl
@[simp] theorem State.setSlot_nq : (s.setSlot k x).nq = s.nq := rfl
@[simp] theorem State.setSlot_pending : (s.setSlot k x).pending = s.pending := rfl
@[simp] theorem State.setSlot_outlet (o : OutletIx) : (s.setSlot k x).outlet o = s.outlet o := rfl
@[simp] theorem State.setSlot_tenant (j : SlotIx) : (s.setSlot k x).tenant j = s.tenant j := rfl
@[simp] theorem State.setSlot_curSlot (j : SlotIx) : (s.setSlot k x).curSlot j = s.curSlot j := rfl
@[simp] theorem State.setSlot_branch (c : BranchIx) : (s.setSlot k x).branch c = s.branch c := rfl
@[simp] theorem State.setSlot_counters (j : SlotIx) : (s.setSlot k x).counters j = s.counters j := rfl
@[simp] theorem State.setSlot_entry (j : PlaceIx) : (s.setSlot k x).entry j = s.entry j := rfl
@[simp] theorem State.setSlot_fixedEntry (j : FixedIx) : (s.setSlot k x).fixedEntry j = s.fixedEntry j := rfl
@[simp] theorem State.setSlot_inUse (j : SlotIx) : (s.setSlot k x).inUse j = s.inUse j := rfl
@[simp] theorem State.setSlot_pendingFor (p : OutletIx) : (s.setSlot k x).pendingFor p = s.pendingFor p := rfl

end

/-! ### setCurSlot -/

section
variable (s : State) (k : SlotIx) (x : CurSlot)

@[simp] theorem State.setCurSlot_resetHeld : (s.setCurSlot k x).resetHeld = s.resetHeld := rfl
@[simp] theorem State.setCurSlot_contacts : (s.setCurSlot k x).contacts = s.contacts := rfl
@[simp] theorem State.setCurSlot_dataOut : (s.setCurSlot k x).dataOut = s.dataOut := rfl
@[simp] theorem State.setCurSlot_station : (s.setCurSlot k x).station = s.station := rfl
@[simp] theorem State.setCurSlot_tenants : (s.setCurSlot k x).tenants = s.tenants := rfl
@[simp] theorem State.setCurSlot_outlets : (s.setCurSlot k x).outlets = s.outlets := rfl
@[simp] theorem State.setCurSlot_osu : (s.setCurSlot k x).osu = s.osu := rfl
@[simp] theorem State.setCurSlot_tly : (s.setCurSlot k x).tly = s.tly := rfl
@[simp] theorem State.setCurSlot_ctb : (s.setCurSlot k x).ctb = s.ctb := rfl
@[simp] theorem State.setCurSlot_rlc : (s.setCurSlot k x).rlc = s.rlc := rfl
@[simp] theorem State.setCurSlot_brm : (s.setCurSlot k x).brm = s.brm := rfl
@[simp] theorem State.setCurSlot_rsq : (s.setCurSlot k x).rsq = s.rsq := rfl
@[simp] theorem State.setCurSlot_ect : (s.setCurSlot k x).ect = s.ect := rfl
@[simp] theorem State.setCurSlot_mpt : (s.setCurSlot k x).mpt = s.mpt := rfl
@[simp] theorem State.setCurSlot_nq : (s.setCurSlot k x).nq = s.nq := rfl
@[simp] theorem State.setCurSlot_pending : (s.setCurSlot k x).pending = s.pending := rfl
@[simp] theorem State.setCurSlot_outlet (o : OutletIx) : (s.setCurSlot k x).outlet o = s.outlet o := rfl
@[simp] theorem State.setCurSlot_tenant (j : SlotIx) : (s.setCurSlot k x).tenant j = s.tenant j := rfl
@[simp] theorem State.setCurSlot_slot (j : SlotIx) : (s.setCurSlot k x).slot j = s.slot j := rfl
@[simp] theorem State.setCurSlot_branch (c : BranchIx) : (s.setCurSlot k x).branch c = s.branch c := rfl
@[simp] theorem State.setCurSlot_counters (j : SlotIx) : (s.setCurSlot k x).counters j = s.counters j := rfl
@[simp] theorem State.setCurSlot_entry (j : PlaceIx) : (s.setCurSlot k x).entry j = s.entry j := rfl
@[simp] theorem State.setCurSlot_fixedEntry (j : FixedIx) : (s.setCurSlot k x).fixedEntry j = s.fixedEntry j := rfl
@[simp] theorem State.setCurSlot_inUse (j : SlotIx) : (s.setCurSlot k x).inUse j = s.inUse j := rfl
@[simp] theorem State.setCurSlot_pendingFor (p : OutletIx) : (s.setCurSlot k x).pendingFor p = s.pendingFor p := rfl

end

/-! ### setBranch -/

section
variable (s : State) (b : BranchIx) (x : Branch)

@[simp] theorem State.setBranch_resetHeld : (s.setBranch b x).resetHeld = s.resetHeld := rfl
@[simp] theorem State.setBranch_contacts : (s.setBranch b x).contacts = s.contacts := rfl
@[simp] theorem State.setBranch_dataOut : (s.setBranch b x).dataOut = s.dataOut := rfl
@[simp] theorem State.setBranch_station : (s.setBranch b x).station = s.station := rfl
@[simp] theorem State.setBranch_tenants : (s.setBranch b x).tenants = s.tenants := rfl
@[simp] theorem State.setBranch_outlets : (s.setBranch b x).outlets = s.outlets := rfl
@[simp] theorem State.setBranch_osu : (s.setBranch b x).osu = s.osu := rfl
@[simp] theorem State.setBranch_tly : (s.setBranch b x).tly = s.tly := rfl
@[simp] theorem State.setBranch_ctb : (s.setBranch b x).ctb = s.ctb := rfl
@[simp] theorem State.setBranch_rlc : (s.setBranch b x).rlc = s.rlc := rfl
@[simp] theorem State.setBranch_cur : (s.setBranch b x).cur = s.cur := rfl
@[simp] theorem State.setBranch_rsq : (s.setBranch b x).rsq = s.rsq := rfl
@[simp] theorem State.setBranch_ect : (s.setBranch b x).ect = s.ect := rfl
@[simp] theorem State.setBranch_mpt : (s.setBranch b x).mpt = s.mpt := rfl
@[simp] theorem State.setBranch_nq : (s.setBranch b x).nq = s.nq := rfl
@[simp] theorem State.setBranch_pending : (s.setBranch b x).pending = s.pending := rfl
@[simp] theorem State.setBranch_outlet (o : OutletIx) : (s.setBranch b x).outlet o = s.outlet o := rfl
@[simp] theorem State.setBranch_tenant (j : SlotIx) : (s.setBranch b x).tenant j = s.tenant j := rfl
@[simp] theorem State.setBranch_slot (j : SlotIx) : (s.setBranch b x).slot j = s.slot j := rfl
@[simp] theorem State.setBranch_curSlot (j : SlotIx) : (s.setBranch b x).curSlot j = s.curSlot j := rfl
@[simp] theorem State.setBranch_counters (j : SlotIx) : (s.setBranch b x).counters j = s.counters j := rfl
@[simp] theorem State.setBranch_entry (j : PlaceIx) : (s.setBranch b x).entry j = s.entry j := rfl
@[simp] theorem State.setBranch_fixedEntry (j : FixedIx) : (s.setBranch b x).fixedEntry j = s.fixedEntry j := rfl
@[simp] theorem State.setBranch_inUse (j : SlotIx) : (s.setBranch b x).inUse j = s.inUse j := rfl
@[simp] theorem State.setBranch_pendingFor (p : OutletIx) : (s.setBranch b x).pendingFor p = s.pendingFor p := rfl

end

/-! ### setCounters -/

section
variable (s : State) (k : SlotIx) (x : SlotCounters)

@[simp] theorem State.setCounters_resetHeld : (s.setCounters k x).resetHeld = s.resetHeld := rfl
@[simp] theorem State.setCounters_contacts : (s.setCounters k x).contacts = s.contacts := rfl
@[simp] theorem State.setCounters_dataOut : (s.setCounters k x).dataOut = s.dataOut := rfl
@[simp] theorem State.setCounters_station : (s.setCounters k x).station = s.station := rfl
@[simp] theorem State.setCounters_tenants : (s.setCounters k x).tenants = s.tenants := rfl
@[simp] theorem State.setCounters_outlets : (s.setCounters k x).outlets = s.outlets := rfl
@[simp] theorem State.setCounters_osu : (s.setCounters k x).osu = s.osu := rfl
@[simp] theorem State.setCounters_tly : (s.setCounters k x).tly = s.tly := rfl
@[simp] theorem State.setCounters_ctb : (s.setCounters k x).ctb = s.ctb := rfl
@[simp] theorem State.setCounters_rlc : (s.setCounters k x).rlc = s.rlc := rfl
@[simp] theorem State.setCounters_cur : (s.setCounters k x).cur = s.cur := rfl
@[simp] theorem State.setCounters_brm : (s.setCounters k x).brm = s.brm := rfl
@[simp] theorem State.setCounters_rsq : (s.setCounters k x).rsq = s.rsq := rfl
@[simp] theorem State.setCounters_mpt : (s.setCounters k x).mpt = s.mpt := rfl
@[simp] theorem State.setCounters_nq : (s.setCounters k x).nq = s.nq := rfl
@[simp] theorem State.setCounters_pending : (s.setCounters k x).pending = s.pending := rfl
@[simp] theorem State.setCounters_outlet (o : OutletIx) : (s.setCounters k x).outlet o = s.outlet o := rfl
@[simp] theorem State.setCounters_tenant (j : SlotIx) : (s.setCounters k x).tenant j = s.tenant j := rfl
@[simp] theorem State.setCounters_slot (j : SlotIx) : (s.setCounters k x).slot j = s.slot j := rfl
@[simp] theorem State.setCounters_curSlot (j : SlotIx) : (s.setCounters k x).curSlot j = s.curSlot j := rfl
@[simp] theorem State.setCounters_branch (c : BranchIx) : (s.setCounters k x).branch c = s.branch c := rfl
@[simp] theorem State.setCounters_entry (j : PlaceIx) : (s.setCounters k x).entry j = s.entry j := rfl
@[simp] theorem State.setCounters_fixedEntry (j : FixedIx) : (s.setCounters k x).fixedEntry j = s.fixedEntry j := rfl
@[simp] theorem State.setCounters_inUse (j : SlotIx) : (s.setCounters k x).inUse j = s.inUse j := rfl
@[simp] theorem State.setCounters_pendingFor (p : OutletIx) : (s.setCounters k x).pendingFor p = s.pendingFor p := rfl

end

/-! ### setEntry -/

section
variable (s : State) (i : PlaceIx) (x : Option DynEntry)

@[simp] theorem State.setEntry_resetHeld : (s.setEntry i x).resetHeld = s.resetHeld := rfl
@[simp] theorem State.setEntry_contacts : (s.setEntry i x).contacts = s.contacts := rfl
@[simp] theorem State.setEntry_dataOut : (s.setEntry i x).dataOut = s.dataOut := rfl
@[simp] theorem State.setEntry_station : (s.setEntry i x).station = s.station := rfl
@[simp] theorem State.setEntry_tenants : (s.setEntry i x).tenants = s.tenants := rfl
@[simp] theorem State.setEntry_outlets : (s.setEntry i x).outlets = s.outlets := rfl
@[simp] theorem State.setEntry_osu : (s.setEntry i x).osu = s.osu := rfl
@[simp] theorem State.setEntry_tly : (s.setEntry i x).tly = s.tly := rfl
@[simp] theorem State.setEntry_rlc : (s.setEntry i x).rlc = s.rlc := rfl
@[simp] theorem State.setEntry_cur : (s.setEntry i x).cur = s.cur := rfl
@[simp] theorem State.setEntry_brm : (s.setEntry i x).brm = s.brm := rfl
@[simp] theorem State.setEntry_rsq : (s.setEntry i x).rsq = s.rsq := rfl
@[simp] theorem State.setEntry_ect : (s.setEntry i x).ect = s.ect := rfl
@[simp] theorem State.setEntry_mpt : (s.setEntry i x).mpt = s.mpt := rfl
@[simp] theorem State.setEntry_nq : (s.setEntry i x).nq = s.nq := rfl
@[simp] theorem State.setEntry_pending : (s.setEntry i x).pending = s.pending := rfl
@[simp] theorem State.setEntry_outlet (o : OutletIx) : (s.setEntry i x).outlet o = s.outlet o := rfl
@[simp] theorem State.setEntry_tenant (j : SlotIx) : (s.setEntry i x).tenant j = s.tenant j := rfl
@[simp] theorem State.setEntry_slot (j : SlotIx) : (s.setEntry i x).slot j = s.slot j := rfl
@[simp] theorem State.setEntry_curSlot (j : SlotIx) : (s.setEntry i x).curSlot j = s.curSlot j := rfl
@[simp] theorem State.setEntry_branch (c : BranchIx) : (s.setEntry i x).branch c = s.branch c := rfl
@[simp] theorem State.setEntry_counters (j : SlotIx) : (s.setEntry i x).counters j = s.counters j := rfl
@[simp] theorem State.setEntry_fixedEntry (j : FixedIx) : (s.setEntry i x).fixedEntry j = s.fixedEntry j := rfl
@[simp] theorem State.setEntry_inUse (j : SlotIx) : (s.setEntry i x).inUse j = s.inUse j := rfl
@[simp] theorem State.setEntry_pendingFor (p : OutletIx) : (s.setEntry i x).pendingFor p = s.pendingFor p := rfl

end

/-! ### raiseAt -/

section
variable (s : State) (n : Nat) (b : NoticeBody)

@[simp] theorem State.raiseAt_resetHeld : (s.raiseAt n b).resetHeld = s.resetHeld := rfl
@[simp] theorem State.raiseAt_contacts : (s.raiseAt n b).contacts = s.contacts := rfl
@[simp] theorem State.raiseAt_dataOut : (s.raiseAt n b).dataOut = s.dataOut := rfl
@[simp] theorem State.raiseAt_station : (s.raiseAt n b).station = s.station := rfl
@[simp] theorem State.raiseAt_tenants : (s.raiseAt n b).tenants = s.tenants := rfl
@[simp] theorem State.raiseAt_outlets : (s.raiseAt n b).outlets = s.outlets := rfl
@[simp] theorem State.raiseAt_osu : (s.raiseAt n b).osu = s.osu := rfl
@[simp] theorem State.raiseAt_tly : (s.raiseAt n b).tly = s.tly := rfl
@[simp] theorem State.raiseAt_ctb : (s.raiseAt n b).ctb = s.ctb := rfl
@[simp] theorem State.raiseAt_rlc : (s.raiseAt n b).rlc = s.rlc := rfl
@[simp] theorem State.raiseAt_cur : (s.raiseAt n b).cur = s.cur := rfl
@[simp] theorem State.raiseAt_brm : (s.raiseAt n b).brm = s.brm := rfl
@[simp] theorem State.raiseAt_rsq : (s.raiseAt n b).rsq = s.rsq := rfl
@[simp] theorem State.raiseAt_ect : (s.raiseAt n b).ect = s.ect := rfl
@[simp] theorem State.raiseAt_mpt : (s.raiseAt n b).mpt = s.mpt := rfl
@[simp] theorem State.raiseAt_pending : (s.raiseAt n b).pending = s.pending := rfl
@[simp] theorem State.raiseAt_outlet (o : OutletIx) : (s.raiseAt n b).outlet o = s.outlet o := rfl
@[simp] theorem State.raiseAt_tenant (j : SlotIx) : (s.raiseAt n b).tenant j = s.tenant j := rfl
@[simp] theorem State.raiseAt_slot (j : SlotIx) : (s.raiseAt n b).slot j = s.slot j := rfl
@[simp] theorem State.raiseAt_curSlot (j : SlotIx) : (s.raiseAt n b).curSlot j = s.curSlot j := rfl
@[simp] theorem State.raiseAt_branch (c : BranchIx) : (s.raiseAt n b).branch c = s.branch c := rfl
@[simp] theorem State.raiseAt_counters (j : SlotIx) : (s.raiseAt n b).counters j = s.counters j := rfl
@[simp] theorem State.raiseAt_entry (j : PlaceIx) : (s.raiseAt n b).entry j = s.entry j := rfl
@[simp] theorem State.raiseAt_fixedEntry (j : FixedIx) : (s.raiseAt n b).fixedEntry j = s.fixedEntry j := rfl
@[simp] theorem State.raiseAt_inUse (j : SlotIx) : (s.raiseAt n b).inUse j = s.inUse j := rfl
@[simp] theorem State.raiseAt_pendingFor (p : OutletIx) : (s.raiseAt n b).pendingFor p = s.pendingFor p := rfl

end

/-! ### raise -/

section
variable (s : State) (b : NoticeBody)

@[simp] theorem State.raise_resetHeld : (s.raise b).resetHeld = s.resetHeld := rfl
@[simp] theorem State.raise_contacts : (s.raise b).contacts = s.contacts := rfl
@[simp] theorem State.raise_dataOut : (s.raise b).dataOut = s.dataOut := rfl
@[simp] theorem State.raise_station : (s.raise b).station = s.station := rfl
@[simp] theorem State.raise_tenants : (s.raise b).tenants = s.tenants := rfl
@[simp] theorem State.raise_outlets : (s.raise b).outlets = s.outlets := rfl
@[simp] theorem State.raise_osu : (s.raise b).osu = s.osu := rfl
@[simp] theorem State.raise_tly : (s.raise b).tly = s.tly := rfl
@[simp] theorem State.raise_ctb : (s.raise b).ctb = s.ctb := rfl
@[simp] theorem State.raise_rlc : (s.raise b).rlc = s.rlc := rfl
@[simp] theorem State.raise_cur : (s.raise b).cur = s.cur := rfl
@[simp] theorem State.raise_brm : (s.raise b).brm = s.brm := rfl
@[simp] theorem State.raise_rsq : (s.raise b).rsq = s.rsq := rfl
@[simp] theorem State.raise_ect : (s.raise b).ect = s.ect := rfl
@[simp] theorem State.raise_mpt : (s.raise b).mpt = s.mpt := rfl
@[simp] theorem State.raise_pending : (s.raise b).pending = s.pending := rfl
@[simp] theorem State.raise_outlet (o : OutletIx) : (s.raise b).outlet o = s.outlet o := rfl
@[simp] theorem State.raise_tenant (j : SlotIx) : (s.raise b).tenant j = s.tenant j := rfl
@[simp] theorem State.raise_slot (j : SlotIx) : (s.raise b).slot j = s.slot j := rfl
@[simp] theorem State.raise_curSlot (j : SlotIx) : (s.raise b).curSlot j = s.curSlot j := rfl
@[simp] theorem State.raise_branch (c : BranchIx) : (s.raise b).branch c = s.branch c := rfl
@[simp] theorem State.raise_counters (j : SlotIx) : (s.raise b).counters j = s.counters j := rfl
@[simp] theorem State.raise_entry (j : PlaceIx) : (s.raise b).entry j = s.entry j := rfl
@[simp] theorem State.raise_fixedEntry (j : FixedIx) : (s.raise b).fixedEntry j = s.fixedEntry j := rfl
@[simp] theorem State.raise_inUse (j : SlotIx) : (s.raise b).inUse j = s.inUse j := rfl
@[simp] theorem State.raise_pendingFor (p : OutletIx) : (s.raise b).pendingFor p = s.pendingFor p := rfl

end

/-! ### withPins -/

section
variable (s : State) (c : Contacts)

@[simp] theorem State.withPins_resetHeld : (s.withPins c).resetHeld = s.resetHeld := rfl
@[simp] theorem State.withPins_dataOut : (s.withPins c).dataOut = s.dataOut := rfl
@[simp] theorem State.withPins_station : (s.withPins c).station = s.station := rfl
@[simp] theorem State.withPins_tenants : (s.withPins c).tenants = s.tenants := rfl
@[simp] theorem State.withPins_outlets : (s.withPins c).outlets = s.outlets := rfl
@[simp] theorem State.withPins_osu : (s.withPins c).osu = s.osu := rfl
@[simp] theorem State.withPins_tly : (s.withPins c).tly = s.tly := rfl
@[simp] theorem State.withPins_ctb : (s.withPins c).ctb = s.ctb := rfl
@[simp] theorem State.withPins_rlc : (s.withPins c).rlc = s.rlc := rfl
@[simp] theorem State.withPins_cur : (s.withPins c).cur = s.cur := rfl
@[simp] theorem State.withPins_brm : (s.withPins c).brm = s.brm := rfl
@[simp] theorem State.withPins_rsq : (s.withPins c).rsq = s.rsq := rfl
@[simp] theorem State.withPins_ect : (s.withPins c).ect = s.ect := rfl
@[simp] theorem State.withPins_mpt : (s.withPins c).mpt = s.mpt := rfl
@[simp] theorem State.withPins_nq : (s.withPins c).nq = s.nq := rfl
@[simp] theorem State.withPins_pending : (s.withPins c).pending = s.pending := rfl
@[simp] theorem State.withPins_outlet (o : OutletIx) : (s.withPins c).outlet o = s.outlet o := rfl
@[simp] theorem State.withPins_tenant (j : SlotIx) : (s.withPins c).tenant j = s.tenant j := rfl
@[simp] theorem State.withPins_slot (j : SlotIx) : (s.withPins c).slot j = s.slot j := rfl
@[simp] theorem State.withPins_curSlot (j : SlotIx) : (s.withPins c).curSlot j = s.curSlot j := rfl
@[simp] theorem State.withPins_branch (c' : BranchIx) : (s.withPins c).branch c' = s.branch c' := rfl
@[simp] theorem State.withPins_counters (j : SlotIx) : (s.withPins c).counters j = s.counters j := rfl
@[simp] theorem State.withPins_entry (j : PlaceIx) : (s.withPins c).entry j = s.entry j := rfl
@[simp] theorem State.withPins_fixedEntry (j : FixedIx) : (s.withPins c).fixedEntry j = s.fixedEntry j := rfl
@[simp] theorem State.withPins_inUse (j : SlotIx) : (s.withPins c).inUse j = s.inUse j := rfl
@[simp] theorem State.withPins_pendingFor (p : OutletIx) : (s.withPins c).pendingFor p = s.pendingFor p := rfl

end

/-! ### endTransaction -/

section
variable (s : State) (n : Nat)

@[simp] theorem State.endTransaction_resetHeld : (s.endTransaction n).resetHeld = s.resetHeld := rfl
@[simp] theorem State.endTransaction_contacts : (s.endTransaction n).contacts = s.contacts := rfl
@[simp] theorem State.endTransaction_station : (s.endTransaction n).station = s.station := rfl
@[simp] theorem State.endTransaction_tenants : (s.endTransaction n).tenants = s.tenants := rfl
@[simp] theorem State.endTransaction_outlets : (s.endTransaction n).outlets = s.outlets := rfl
@[simp] theorem State.endTransaction_osu : (s.endTransaction n).osu = s.osu := rfl
@[simp] theorem State.endTransaction_tly : (s.endTransaction n).tly = s.tly := rfl
@[simp] theorem State.endTransaction_ctb : (s.endTransaction n).ctb = s.ctb := rfl
@[simp] theorem State.endTransaction_rlc : (s.endTransaction n).rlc = s.rlc := rfl
@[simp] theorem State.endTransaction_cur : (s.endTransaction n).cur = s.cur := rfl
@[simp] theorem State.endTransaction_brm : (s.endTransaction n).brm = s.brm := rfl
@[simp] theorem State.endTransaction_rsq : (s.endTransaction n).rsq = s.rsq := rfl
@[simp] theorem State.endTransaction_ect : (s.endTransaction n).ect = s.ect := rfl
@[simp] theorem State.endTransaction_nq : (s.endTransaction n).nq = s.nq := rfl
@[simp] theorem State.endTransaction_pending : (s.endTransaction n).pending = s.pending := rfl
@[simp] theorem State.endTransaction_outlet (o : OutletIx) : (s.endTransaction n).outlet o = s.outlet o := rfl
@[simp] theorem State.endTransaction_tenant (j : SlotIx) : (s.endTransaction n).tenant j = s.tenant j := rfl
@[simp] theorem State.endTransaction_slot (j : SlotIx) : (s.endTransaction n).slot j = s.slot j := rfl
@[simp] theorem State.endTransaction_curSlot (j : SlotIx) : (s.endTransaction n).curSlot j = s.curSlot j := rfl
@[simp] theorem State.endTransaction_branch (c : BranchIx) : (s.endTransaction n).branch c = s.branch c := rfl
@[simp] theorem State.endTransaction_counters (j : SlotIx) : (s.endTransaction n).counters j = s.counters j := rfl
@[simp] theorem State.endTransaction_entry (j : PlaceIx) : (s.endTransaction n).entry j = s.entry j := rfl
@[simp] theorem State.endTransaction_fixedEntry (j : FixedIx) : (s.endTransaction n).fixedEntry j = s.fixedEntry j := rfl
@[simp] theorem State.endTransaction_inUse (j : SlotIx) : (s.endTransaction n).inUse j = s.inUse j := rfl
@[simp] theorem State.endTransaction_pendingFor (p : OutletIx) : (s.endTransaction n).pendingFor p = s.pendingFor p := rfl

end

/-! ### reply -/

section
variable (s : State) (c : Byte) (st : Status) (d : List Byte)

@[simp] theorem State.reply_resetHeld : (s.reply c st d).resetHeld = s.resetHeld := rfl
@[simp] theorem State.reply_contacts : (s.reply c st d).contacts = s.contacts := rfl
@[simp] theorem State.reply_dataOut : (s.reply c st d).dataOut = s.dataOut := rfl
@[simp] theorem State.reply_station : (s.reply c st d).station = s.station := rfl
@[simp] theorem State.reply_tenants : (s.reply c st d).tenants = s.tenants := rfl
@[simp] theorem State.reply_outlets : (s.reply c st d).outlets = s.outlets := rfl
@[simp] theorem State.reply_osu : (s.reply c st d).osu = s.osu := rfl
@[simp] theorem State.reply_tly : (s.reply c st d).tly = s.tly := rfl
@[simp] theorem State.reply_ctb : (s.reply c st d).ctb = s.ctb := rfl
@[simp] theorem State.reply_rlc : (s.reply c st d).rlc = s.rlc := rfl
@[simp] theorem State.reply_cur : (s.reply c st d).cur = s.cur := rfl
@[simp] theorem State.reply_brm : (s.reply c st d).brm = s.brm := rfl
@[simp] theorem State.reply_rsq : (s.reply c st d).rsq = s.rsq := rfl
@[simp] theorem State.reply_ect : (s.reply c st d).ect = s.ect := rfl
@[simp] theorem State.reply_nq : (s.reply c st d).nq = s.nq := rfl
@[simp] theorem State.reply_pending : (s.reply c st d).pending = s.pending := rfl
@[simp] theorem State.reply_outlet (o : OutletIx) : (s.reply c st d).outlet o = s.outlet o := rfl
@[simp] theorem State.reply_tenant (j : SlotIx) : (s.reply c st d).tenant j = s.tenant j := rfl
@[simp] theorem State.reply_slot (j : SlotIx) : (s.reply c st d).slot j = s.slot j := rfl
@[simp] theorem State.reply_curSlot (j : SlotIx) : (s.reply c st d).curSlot j = s.curSlot j := rfl
@[simp] theorem State.reply_branch (c' : BranchIx) : (s.reply c st d).branch c' = s.branch c' := rfl
@[simp] theorem State.reply_counters (j : SlotIx) : (s.reply c st d).counters j = s.counters j := rfl
@[simp] theorem State.reply_entry (j : PlaceIx) : (s.reply c st d).entry j = s.entry j := rfl
@[simp] theorem State.reply_fixedEntry (j : FixedIx) : (s.reply c st d).fixedEntry j = s.fixedEntry j := rfl
@[simp] theorem State.reply_inUse (j : SlotIx) : (s.reply c st d).inUse j = s.inUse j := rfl
@[simp] theorem State.reply_pendingFor (p : OutletIx) : (s.reply c st d).pendingFor p = s.pendingFor p := rfl

end

/-! ### transact -/

section
variable (s : State) (bytes : List Byte) (pins : Contacts)

@[simp] theorem State.transact_resetHeld : (s.transact bytes pins).resetHeld = s.resetHeld := rfl
@[simp] theorem State.transact_contacts : (s.transact bytes pins).contacts = s.contacts := rfl
@[simp] theorem State.transact_dataOut : (s.transact bytes pins).dataOut = s.dataOut := rfl
@[simp] theorem State.transact_station : (s.transact bytes pins).station = s.station := rfl
@[simp] theorem State.transact_tenants : (s.transact bytes pins).tenants = s.tenants := rfl
@[simp] theorem State.transact_outlets : (s.transact bytes pins).outlets = s.outlets := rfl
@[simp] theorem State.transact_osu : (s.transact bytes pins).osu = s.osu := rfl
@[simp] theorem State.transact_tly : (s.transact bytes pins).tly = s.tly := rfl
@[simp] theorem State.transact_ctb : (s.transact bytes pins).ctb = s.ctb := rfl
@[simp] theorem State.transact_rlc : (s.transact bytes pins).rlc = s.rlc := rfl
@[simp] theorem State.transact_cur : (s.transact bytes pins).cur = s.cur := rfl
@[simp] theorem State.transact_brm : (s.transact bytes pins).brm = s.brm := rfl
@[simp] theorem State.transact_rsq : (s.transact bytes pins).rsq = s.rsq := rfl
@[simp] theorem State.transact_ect : (s.transact bytes pins).ect = s.ect := rfl
@[simp] theorem State.transact_mpt : (s.transact bytes pins).mpt = s.mpt := rfl
@[simp] theorem State.transact_nq : (s.transact bytes pins).nq = s.nq := rfl
@[simp] theorem State.transact_outlet (o : OutletIx) : (s.transact bytes pins).outlet o = s.outlet o := rfl
@[simp] theorem State.transact_tenant (j : SlotIx) : (s.transact bytes pins).tenant j = s.tenant j := rfl
@[simp] theorem State.transact_slot (j : SlotIx) : (s.transact bytes pins).slot j = s.slot j := rfl
@[simp] theorem State.transact_curSlot (j : SlotIx) : (s.transact bytes pins).curSlot j = s.curSlot j := rfl
@[simp] theorem State.transact_branch (c : BranchIx) : (s.transact bytes pins).branch c = s.branch c := rfl
@[simp] theorem State.transact_counters (j : SlotIx) : (s.transact bytes pins).counters j = s.counters j := rfl
@[simp] theorem State.transact_entry (j : PlaceIx) : (s.transact bytes pins).entry j = s.entry j := rfl
@[simp] theorem State.transact_fixedEntry (j : FixedIx) : (s.transact bytes pins).fixedEntry j = s.fixedEntry j := rfl
@[simp] theorem State.transact_inUse (j : SlotIx) : (s.transact bytes pins).inUse j = s.inUse j := rfl
@[simp] theorem State.transact_pendingFor (p : OutletIx) : (s.transact bytes pins).pendingFor p = s.pendingFor p := rfl

end

/-! ### refuse -/

section
variable (s : State) (c : Byte) (st : Status)

@[simp] theorem State.refuse_resetHeld : (s.refuse c st).resetHeld = s.resetHeld := rfl
@[simp] theorem State.refuse_contacts : (s.refuse c st).contacts = s.contacts := rfl
@[simp] theorem State.refuse_dataOut : (s.refuse c st).dataOut = s.dataOut := rfl
@[simp] theorem State.refuse_station : (s.refuse c st).station = s.station := rfl
@[simp] theorem State.refuse_tenants : (s.refuse c st).tenants = s.tenants := rfl
@[simp] theorem State.refuse_outlets : (s.refuse c st).outlets = s.outlets := rfl
@[simp] theorem State.refuse_osu : (s.refuse c st).osu = s.osu := rfl
@[simp] theorem State.refuse_tly : (s.refuse c st).tly = s.tly := rfl
@[simp] theorem State.refuse_ctb : (s.refuse c st).ctb = s.ctb := rfl
@[simp] theorem State.refuse_rlc : (s.refuse c st).rlc = s.rlc := rfl
@[simp] theorem State.refuse_cur : (s.refuse c st).cur = s.cur := rfl
@[simp] theorem State.refuse_brm : (s.refuse c st).brm = s.brm := rfl
@[simp] theorem State.refuse_rsq : (s.refuse c st).rsq = s.rsq := rfl
@[simp] theorem State.refuse_ect : (s.refuse c st).ect = s.ect := rfl
@[simp] theorem State.refuse_nq : (s.refuse c st).nq = s.nq := rfl
@[simp] theorem State.refuse_pending : (s.refuse c st).pending = s.pending := rfl
@[simp] theorem State.refuse_outlet (o : OutletIx) : (s.refuse c st).outlet o = s.outlet o := rfl
@[simp] theorem State.refuse_tenant (j : SlotIx) : (s.refuse c st).tenant j = s.tenant j := rfl
@[simp] theorem State.refuse_slot (j : SlotIx) : (s.refuse c st).slot j = s.slot j := rfl
@[simp] theorem State.refuse_curSlot (j : SlotIx) : (s.refuse c st).curSlot j = s.curSlot j := rfl
@[simp] theorem State.refuse_branch (c' : BranchIx) : (s.refuse c st).branch c' = s.branch c' := rfl
@[simp] theorem State.refuse_counters (j : SlotIx) : (s.refuse c st).counters j = s.counters j := rfl
@[simp] theorem State.refuse_entry (j : PlaceIx) : (s.refuse c st).entry j = s.entry j := rfl
@[simp] theorem State.refuse_fixedEntry (j : FixedIx) : (s.refuse c st).fixedEntry j = s.fixedEntry j := rfl
@[simp] theorem State.refuse_inUse (j : SlotIx) : (s.refuse c st).inUse j = s.inUse j := rfl
@[simp] theorem State.refuse_pendingFor (p : OutletIx) : (s.refuse c st).pendingFor p = s.pendingFor p := rfl

end

/-! ### Reading a record after it was written -/

theorem State.outlet_setOutlet (s : State) (o o' : OutletIx) (x : Outlet) :
    (s.setOutlet o x).outlet o' = if o = o' then x else s.outlet o' := by
  simp [State.outlet, State.setOutlet, Vector.getElem_set, Fin.ext_iff]

@[simp] theorem State.outlet_setOutlet_self (s : State) (o : OutletIx) (x : Outlet) : (s.setOutlet o x).outlet o = x := by
  simp [State.outlet_setOutlet]

theorem State.outlet_setOutlet_ne (s : State) {o o' : OutletIx} (h : o ≠ o') (x : Outlet) :
    (s.setOutlet o x).outlet o' = s.outlet o' := by
  simp [State.outlet_setOutlet, h]

theorem State.slot_setSlot (s : State) (k k' : SlotIx) (x : SlotRuntime) :
    (s.setSlot k x).slot k' = if k = k' then x else s.slot k' := by
  simp [State.slot, State.setSlot, Vector.getElem_set, Fin.ext_iff]

@[simp] theorem State.slot_setSlot_self (s : State) (k : SlotIx) (x : SlotRuntime) : (s.setSlot k x).slot k = x := by
  simp [State.slot_setSlot]

theorem State.slot_setSlot_ne (s : State) {k k' : SlotIx} (h : k ≠ k') (x : SlotRuntime) :
    (s.setSlot k x).slot k' = s.slot k' := by
  simp [State.slot_setSlot, h]

theorem State.curSlot_setCurSlot (s : State) (k k' : SlotIx) (x : CurSlot) :
    (s.setCurSlot k x).curSlot k' = if k = k' then x else s.curSlot k' := by
  simp [State.curSlot, State.setCurSlot, Vector.getElem_set, Fin.ext_iff]

@[simp] theorem State.curSlot_setCurSlot_self (s : State) (k : SlotIx) (x : CurSlot) : (s.setCurSlot k x).curSlot k = x := by
  simp [State.curSlot_setCurSlot]

theorem State.curSlot_setCurSlot_ne (s : State) {k k' : SlotIx} (h : k ≠ k') (x : CurSlot) :
    (s.setCurSlot k x).curSlot k' = s.curSlot k' := by
  simp [State.curSlot_setCurSlot, h]

theorem State.branch_setBranch (s : State) (b b' : BranchIx) (x : Branch) :
    (s.setBranch b x).branch b' = if b = b' then x else s.branch b' := by
  simp [State.branch, State.setBranch, Vector.getElem_set, Fin.ext_iff]

@[simp] theorem State.branch_setBranch_self (s : State) (b : BranchIx) (x : Branch) : (s.setBranch b x).branch b = x := by
  simp [State.branch_setBranch]

theorem State.branch_setBranch_ne (s : State) {b b' : BranchIx} (h : b ≠ b') (x : Branch) :
    (s.setBranch b x).branch b' = s.branch b' := by
  simp [State.branch_setBranch, h]

theorem State.counters_setCounters (s : State) (k k' : SlotIx) (x : SlotCounters) :
    (s.setCounters k x).counters k' = if k = k' then x else s.counters k' := by
  simp [State.counters, State.setCounters, Vector.getElem_set, Fin.ext_iff]

@[simp] theorem State.counters_setCounters_self (s : State) (k : SlotIx) (x : SlotCounters) : (s.setCounters k x).counters k = x := by
  simp [State.counters_setCounters]

theorem State.counters_setCounters_ne (s : State) {k k' : SlotIx} (h : k ≠ k') (x : SlotCounters) :
    (s.setCounters k x).counters k' = s.counters k' := by
  simp [State.counters_setCounters, h]

theorem State.entry_setEntry (s : State) (i i' : PlaceIx) (x : Option DynEntry) :
    (s.setEntry i x).entry i' = if i = i' then x else s.entry i' := by
  simp [State.entry, State.setEntry, Vector.getElem_set, Fin.ext_iff]

@[simp] theorem State.entry_setEntry_self (s : State) (i : PlaceIx) (x : Option DynEntry) : (s.setEntry i x).entry i = x := by
  simp [State.entry_setEntry]

theorem State.entry_setEntry_ne (s : State) {i i' : PlaceIx} (h : i ≠ i') (x : Option DynEntry) :
    (s.setEntry i x).entry i' = s.entry i' := by
  simp [State.entry_setEntry, h]

/-! ### The transaction -/

@[simp] theorem State.endTransaction_phase (s : State) (n : Nat) : (s.endTransaction n).mpt.phase = s.mpt.phase := rfl
@[simp] theorem State.endTransaction_cursor (s : State) (n : Nat) : (s.endTransaction n).mpt.cursor = s.mpt.cursor := rfl
@[simp] theorem State.endTransaction_buffer (s : State) (n : Nat) : (s.endTransaction n).mpt.buffer = s.mpt.buffer := rfl
@[simp] theorem State.reply_phase (s : State) (c : Byte) (st : Status) (d : List Byte) :
    (s.reply c st d).mpt.phase = s.mpt.phase := rfl
@[simp] theorem State.reply_cursor (s : State) (c : Byte) (st : Status) (d : List Byte) :
    (s.reply c st d).mpt.cursor = s.mpt.cursor := rfl
@[simp] theorem State.reply_ready (s : State) (c : Byte) (st : Status) (d : List Byte) :
    (s.reply c st d).mpt.ready = true := rfl
@[simp] theorem State.reply_buffer (s : State) (c : Byte) (st : Status) (d : List Byte) :
    (s.reply c st d).mpt.buffer = some ⟨c, st, d⟩ := rfl
@[simp] theorem State.withPins_contacts (s : State) (c : Contacts) : (s.withPins c).contacts = c := rfl
@[simp] theorem State.raiseAt_nq (s : State) (n : Nat) (b : NoticeBody) :
    (s.raiseAt n b).nq = s.nq.take (s.station.enables b) ⟨n, b⟩ := rfl
@[simp] theorem State.raise_nq (s : State) (b : NoticeBody) :
    (s.raise b).nq = s.nq.take (s.station.enables b) ⟨s.tly.count, b⟩ := rfl

/-- A vector changed entry by entry, read at a place. -/
@[simp] theorem getElem_mapVec {α β : Type} {n : Nat} (f : α → β) (v : Vector α n) (i : Nat) (h : i < n) :
    (mapVec f v)[i] = f v[i] := by
  simp [mapVec]

end Sys2Proof.Machine
end

