-- ==== Sys2Proof/Laws/Operations.lean ====
section
/-! SUPPORT. For each operation the commands share, what it can do, said once. -/

namespace Sys2Proof.Machine

/-! ### Commands -/

theorem unlessHeld_free {s : State} (h : s.resetHeld = false) (f : State → State) : unlessHeld s f = .next (f s) := by
  simp [unlessHeld, h]

theorem unlessHeld_held {s : State} (h : s.resetHeld = true) (f : State → State) : unlessHeld s f = .next s := by
  simp [unlessHeld, h]

/-- A port command of the right length runs its work on the state its transaction leaves. -/
theorem portCommand_work {code : Byte} {len : Nat} {r : Record} {s : State} (h : s.resetHeld = false)
    (hl : r.params.length = len) (work : State → State) :
    portCommand code len r s work = .next (work (s.endTransaction (2 + r.params.length + r.trailing.length))) := by
  simp [portCommand, unlessHeld, h, hl]

/-- A port command of another length is refused BAD_ARGUMENT. -/
theorem portCommand_refuse {code : Byte} {len : Nat} {r : Record} {s : State} (h : s.resetHeld = false)
    (hl : r.params.length ≠ len) (work : State → State) :
    portCommand code len r s work =
      .next ((s.endTransaction (2 + r.params.length + r.trailing.length)).refuse code .badArgument) := by
  simp [portCommand, unlessHeld, h, hl]

theorem portCommand_held {code : Byte} {len : Nat} {r : Record} {s : State} (h : s.resetHeld = true)
    (work : State → State) : portCommand code len r s work = .next s := unlessHeld_held h _

/-- What a load does: refused outside CONFIG, refused on parameters out of range, else written. -/
theorem State.load_cases {α : Type} (s : State) (code : Byte) (params : Option α) (write : State → α → State) :
    (s.mpt.phase ≠ .config ∧ s.load code params write = s.refuse code .wrongState) ∨
    (s.mpt.phase = .config ∧ params = none ∧ s.load code params write = s.refuse code .badArgument) ∨
    ∃ p, s.mpt.phase = .config ∧ params = some p ∧ s.load code params write = (write s p).reply code .ok [] := by
  unfold State.load
  split
  · exact .inl ⟨‹_›, rfl⟩
  · cases params <;> simp_all

/-! ### Folds over the records -/

/-- What every turn keeps, the whole work keeps. -/
theorem foldl_keeps {α β : Type} {P : β → Prop} {f : β → α → β} (step : ∀ b a, P b → P (f b a)) (l : List α) (b : β)
    (h : P b) : P (l.foldl f b) := by
  induction l generalizing b with
  | nil => exact h
  | cons a l ih => exact ih _ (step b a h)

/-- A quantity no turn changes is unchanged by the whole work. -/
theorem foldl_fixes {α β γ : Type} {g : β → γ} {f : β → α → β} (step : ∀ b a, g (f b a) = g b) (l : List α) (b : β) :
    g (l.foldl f b) = g b :=
  foldl_keeps (P := fun x => g x = g b) (fun x a h => (step x a).trans h) l b rfl

/-- Work that changes one record a turn, reading nothing another turn writes: each record is worked once. -/
theorem foldl_worked {α β γ : Type} [DecidableEq α] {get : β → α → γ} {f : β → α → β} {work : β → α → γ}
    (here : ∀ b a, get (f b a) a = work b a) (there : ∀ b a c, c ≠ a → get (f b a) c = get b c)
    (fixed : ∀ b a c, c ≠ a → work (f b a) c = work b c) (l : List α) (hl : l.Nodup) (b : β) (a : α) :
    get (l.foldl f b) a = if a ∈ l then work b a else get b a := by
  induction l generalizing b with
  | nil => simp
  | cons c l ih =>
    have hc := List.nodup_cons.mp hl
    rw [List.foldl_cons, ih hc.2]
    by_cases hac : a = c
    · subst hac; simp [hc.1, here]
    · simp [hac, there b c a hac, fixed b c a hac]

/-! ### Notices -/

/-- What the queue may do with a notice (R172). -/
theorem Nq.take_cases (q : Nq) (enabled : Bool) (n : Notice) :
    (enabled = false ∧ q.take enabled n = q) ∨
    (enabled = true ∧ q.queue.length < 63 ∧ q.take enabled n = { q with queue := q.queue ++ [n] }) ∨
    (enabled = true ∧ 63 ≤ q.queue.length ∧ q.take enabled n = { q with lost := true }) := by
  cases enabled <;> by_cases h : q.queue.length < 63 <;>
    simp [Nq.take, Config.noticeCapacity, h, Nat.le_of_not_lt]

/-! ### What a running out does -/

/-- A timer is due when it shows its last tick. -/
theorem Timer.due_iff (t : Timer) : Timer.due t = true ↔ ∃ n, t = some n ∧ n ≤ 1 := by
  cases t <;> simp [Timer.due]

/-- What a settle timer's expiry can do (R116; log entry 32). -/
theorem CurSlot.expire_cases (c : CurSlot) :
    (c.oldDue = true ∧ c.expire = { c with oldDue := false }) ∨
    (c.oldDue = false ∧ c.expire = { c with settle := none }) := by
  cases h : c.oldDue <;> simp [CurSlot.expire, h]

/-- What an adjustment's expiry can do (R95; log entry 32). -/
theorem Adjustment.expire_cases (a : Adjustment) :
    (a.oldDue = true ∧ a.expire = some { a with oldDue := false }) ∨ (a.oldDue = false ∧ a.expire = none) := by
  cases h : a.oldDue <;> simp [Adjustment.expire, h]

@[simp] theorem CurSlot.restart_settle (c : CurSlot) (n : Nat) : (c.restart n).settle = some n := rfl
@[simp] theorem CurSlot.restart_hold (c : CurSlot) (n : Nat) : (c.restart n).hold = c.hold := rfl
@[simp] theorem CurSlot.restart_uncurtailable (c : CurSlot) (n : Nat) :
    (c.restart n).uncurtailable = c.uncurtailable := rfl
@[simp] theorem InFlight.drive_none {f : InFlight} (h : f.pulse = none) : f.drive = none := by simp [InFlight.drive, h]
@[simp] theorem InFlight.drive_some {f : InFlight} {n : Nat} (h : f.pulse = some n) :
    f.drive = some ⟨f.action.kind.target, n⟩ := by simp [InFlight.drive, h]

/-! ### The transmit queue -/

/-- What may go on the line (R72, R78): nothing from an empty queue, the front of the NOTE run, or the front of the
SUMMARY/ANNOUNCE run when no NOTE waits or a try is for it. -/
theorem Rlc.takeHead_cases (r : Rlc) :
    (r.noteRun = [] ∧ r.otherRun = [] ∧ r.takeHead = r) ∨
    (∃ f rest, r.noteRun = f :: rest ∧ (r.tryOther = false ∨ r.otherRun = []) ∧
      r.takeHead = { r with noteRun := rest, onLine := some f, tryOther := false }) ∨
    ∃ f rest, r.otherRun = f :: rest ∧ (r.tryOther = true ∨ r.noteRun = []) ∧
      r.takeHead = { r with otherRun := rest, onLine := some f, tryOther := false } := by
  obtain ⟨_, _, noteRun, otherRun, _, _, _, _, tryOther, _⟩ := r
  cases tryOther <;> cases noteRun <;> cases otherRun <;> simp [Rlc.takeHead]

/-- What the retry timer's expiry allows (R78): nothing new while a try is under way. -/
theorem Rlc.allowTry_cases (r : Rlc) :
    (r.tryOn = true ∧ r.allowTry = r) ∨
    (r.tryOn = false ∧ r.allowTry = { r with
      tryOn := decide (0 < r.queued)
      tryOther := r.onLine.isNone && r.noteRun.isEmpty && !r.otherRun.isEmpty }) := by
  cases h : r.tryOn <;> simp [Rlc.allowTry, h]

/-! ### The choice -/

/-- A choice changes outlets, lanes and the notice queue alone, whatever its stamp (R136). -/
theorem State.chooseAt_frame (s : State) (stamp : Nat) :
    ∃ outlets rsq nq, s.chooseAt stamp = { s with outlets := outlets, rsq := rsq, nq := nq } := by
  suffices key : ∀ (n : Nat) (s : State), ∃ outlets rsq nq,
      chooseUpTo stamp n s = { s with outlets := outlets, rsq := rsq, nq := nq } from key _ s
  intro n
  induction n with
  | zero => exact fun s => ⟨_, _, _, rfl⟩
  | succ n ih =>
    intro s
    unfold chooseUpTo
    split
    · exact ⟨_, _, _, rfl⟩
    · split
      · exact ⟨_, _, _, rfl⟩
      · dsimp only
        split
        · obtain ⟨o, r, q, h⟩ := ih (State.completeRearm stamp { s with rsq := _ } _)
          exact ⟨o, r, q, by rw [h]; rfl⟩
        · split
          · obtain ⟨o, r, q, h⟩ := ih (State.retireFaulted stamp { s with rsq := _ } _)
            refine ⟨o, r, q, ?_⟩
            rw [h, State.retireFaulted]
            split <;> rfl
          · exact ⟨_, _, _, rfl⟩

/-! ### Transactions -/

/-- What the bytes of a transaction can carry (R159). -/
theorem readTransaction_cases (bytes : List Byte) (pins : Contacts) :
    ((bytes.length < 2 ∨ bytes.head? = some 0) ∧ readTransaction bytes pins = .noCommandTransaction bytes) ∨
    ∃ code len rest, bytes = code :: len :: rest ∧ code ≠ 0 ∧
      (rest.length < len.toNat ∧ readTransaction bytes pins = .cutShortRecord code len rest ∨
        len.toNat ≤ rest.length ∧
          readTransaction bytes pins = commandOf code ⟨rest.take len.toNat, rest.drop len.toNat⟩ pins) := by
  match bytes with
  | [] => simp [readTransaction]
  | [_] => simp [readTransaction]
  | code :: len :: rest =>
    by_cases h : code = 0
    · simp [readTransaction, h]
    · by_cases hl : rest.length < len.toNat
      · exact .inr ⟨code, len, rest, rfl, h, .inl ⟨hl, by rw [readTransaction, if_neg h, if_pos hl]⟩⟩
      · exact .inr ⟨code, len, rest, rfl, h,
          .inr ⟨Nat.le_of_not_lt hl, by rw [readTransaction, if_neg h, if_neg hl]⟩⟩

/-! ### Choosing the first -/

/-- The choice of `pick` is an element that none comes before, for an order that is transitive in its negation. -/
theorem pick_spec {α : Type} {before : α → α → Bool}
    (asymm : ∀ x y, before x y = true → before y x = false)
    (trans : ∀ x y z, before x y = false → before y z = false → before x z = false)
    {l : List α} {x : α} (h : pick before l = some x) : x ∈ l ∧ ∀ y ∈ l, before y x = false := by
  cases l with
  | nil => simp [pick] at h
  | cons a l =>
    simp only [pick, Option.some.injEq] at h
    subst h
    have irrefl : ∀ x, before x x = false := fun x => by
      cases hx : before x x
      · rfl
      · exact absurd (asymm x x hx) (by simp [hx])
    suffices H : ∀ (l seen : List α) (b : α), (b ∈ seen ∧ ∀ y ∈ seen, before y b = false) →
        (l.foldl (fun best y => if before y best then y else best) b ∈ seen ++ l ∧
          ∀ y ∈ seen ++ l, before y (l.foldl (fun best y => if before y best then y else best) b) = false) by
      simpa using H l [a] a (by simp [irrefl])
    intro l
    induction l with
    | nil => intro seen b hb; simpa using hb
    | cons c l ih =>
      intro seen b hb
      have key : (if before c b then c else b) ∈ seen ++ [c] ∧
          ∀ y ∈ seen ++ [c], before y (if before c b then c else b) = false := by
        cases hcb : before c b
        · refine ⟨by simp [hb.1], fun y hy => ?_⟩
          rcases List.mem_append.mp hy with hy | hy
          · simpa using hb.2 y hy
          · simpa [List.mem_singleton.mp hy] using hcb
        · refine ⟨by simp, fun y hy => ?_⟩
          rcases List.mem_append.mp hy with hy | hy
          · simpa using trans y b c (hb.2 y hy) (asymm c b hcb)
          · simpa [List.mem_singleton.mp hy] using irrefl c
      simpa using ih (seen ++ [c]) _ key

theorem pick_eq_none {α : Type} {before : α → α → Bool} {l : List α} : pick before l = none ↔ l = [] := by
  cases l <;> simp [pick]

/-! ### Bytes -/

@[simp] theorem natBytes_length (w n : Nat) : (natBytes w n).length = w := by
  induction w with
  | zero => rfl
  | succ w ih => simp [natBytes, ih]

theorem bytesNat_append (a b : List Byte) : bytesNat (a ++ b) = bytesNat a * 256 ^ b.length + bytesNat b := by
  have key : ∀ (b : List Byte) (x : Nat),
      b.foldl (fun acc c => acc * 256 + c.toNat) x = x * 256 ^ b.length + bytesNat b := by
    intro b
    induction b with
    | nil => intro x; simp [bytesNat]
    | cons c b ih =>
      intro x
      have h0 := ih c.toNat
      simp only [List.foldl_cons, bytesNat, List.length_cons, Nat.zero_mul, Nat.zero_add] at h0 ih ⊢
      rw [ih, h0]; ring
  rw [bytesNat, List.foldl_append]; exact key b _

theorem bytesNat_cons (c : Byte) (b : List Byte) : bytesNat (c :: b) = c.toNat * 256 ^ b.length + bytesNat b := by
  simpa [bytesNat] using bytesNat_append [c] b

/-- Bytes written are read back, up to the width. -/
theorem bytesNat_natBytes (w n : Nat) : bytesNat (natBytes w n) = n % 256 ^ w := by
  induction w with
  | zero => simp [natBytes, bytesNat, Nat.mod_one]
  | succ w ih =>
    have split : n % (256 ^ w * 256) = n % 256 ^ w + 256 ^ w * (n / 256 ^ w % 256) := Nat.mod_mul
    rw [natBytes, bytesNat_cons, ih, natBytes_length, BitVec.toNat_ofNat, pow_succ 256 w, split, Nat.mul_comm,
      Nat.add_comm]

/-- A number of bytes is below the power of their count. -/
theorem bytesNat_lt (b : List Byte) : bytesNat b < 256 ^ b.length := by
  induction b with
  | nil => simp [bytesNat]
  | cons c b ih =>
    rw [bytesNat_cons, List.length_cons, pow_succ]
    have := c.isLt
    nlinarith

/-- The bytes of a number that bytes stand for are those bytes. -/
theorem natBytes_bytesNat (b : List Byte) : natBytes b.length (bytesNat b) = b := by
  induction b with
  | nil => rfl
  | cons c b ih =>
    have hb := bytesNat_lt b
    rw [List.length_cons, natBytes, bytesNat_cons]
    congr 1
    · have : (c.toNat * 256 ^ b.length + bytesNat b) / 256 ^ b.length = c.toNat := by
        rw [Nat.mul_comm, Nat.mul_add_div (by positivity), Nat.div_eq_of_lt hb, Nat.add_zero]
      rw [this]; simp
    · have low : ∀ (w n m : Nat), natBytes w (m * 256 ^ w + n) = natBytes w n := by
        intro w
        induction w with
        | zero => intros; rfl
        | succ w iw =>
          intro n m
          simp only [natBytes]
          congr 1
          · apply BitVec.eq_of_toNat_eq
            simp only [BitVec.toNat_ofNat]
            rw [pow_succ, show m * (256 ^ w * 256) + n = 256 ^ w * (m * 256) + n by ring,
              Nat.mul_add_div (by positivity)]
            omega
          · rw [pow_succ, show m * (256 ^ w * 256) + n = (m * 256) * 256 ^ w + n by ring, iw]
      rw [low]; exact ih

end Sys2Proof.Machine
end

