-- ==== Sys2Proof/Tests/Slice0.lean ====
section
/-! SUPPORT. The model's own tests: an ill-formed term for each check of WellFormed.lean, the spec's worked figures, and for
every statement that has hypotheses a witness: concrete states and operands that meet them, clause by clause. -/

namespace Sys2Proof.Tests

open Sys2Proof.Machine Sys2Proof.Safety Sys2Proof.Claims

-- One thread: the many short kernel evaluations below would otherwise each hold one.
set_option Elab.async false

/-! ### Ill-formed terms are refused -/

/-- R179: a record carries at most 255 parameter bytes. -/
theorem test_refuses_long_record : (Instr.readStatus ⟨List.replicate 256 0, []⟩).wf = false := by decide +kernel

/-- R159: a transaction of two bytes or more whose code is not 0 carries a command. -/
theorem test_refuses_command_as_no_command : (Instr.noCommandTransaction [1, 0]).wf = false := by decide

/-- R159: a record with all its parameter bytes is not cut short. -/
theorem test_refuses_whole_record_as_cut_short : (Instr.cutShortRecord 2 1 [0]).wf = false := by decide

/-- R159: code 0 means no command, however short what follows. -/
theorem test_refuses_cut_short_no_command : (Instr.cutShortRecord 0 1 []).wf = false := by decide

/-- R160, R180: 0x34 names CLEAR COUNTERS. -/
theorem test_refuses_known_code_as_unknown : (Instr.unknownCommandCode 0x34 ⟨[], []⟩).wf = false := by decide

/-- R159: code 0 means no command. -/
theorem test_refuses_code_zero_as_unknown : (Instr.unknownCommandCode 0 ⟨[], []⟩).wf = false := by decide

/-- R179, the same bound for a code that names no command. -/
theorem test_refuses_long_unknown_record :
    (Instr.unknownCommandCode 9 ⟨List.replicate 256 0, []⟩).wf = false := by decide +kernel

/-! ### States the tests share -/

/-- The state an outcome leads to, or a state that no test expects. -/
def after : Host.Outcome State Fault Refusal → State
  | .next t => t
  | _ => { State.reset with resetHeld := true }

/-- A part in RUN with nothing configured. -/
def running : State := { State.reset with mpt := { Mpt.reset with phase := .run } }

/-- One slot's configured fields replaced. -/
def withTenant (s : State) (k : SlotIx) (x : Tenant) : State := { s with tenants := s.tenants.set k.val x }

/-- Actions queued in the standard lane. -/
def queuedStandard (s : State) (actions : List Action) : State := { s with rsq := { s.rsq with standard := actions } }

/-- Actions queued in the urgent lane. -/
def queuedUrgent (s : State) (actions : List Action) : State := { s with rsq := { s.rsq with urgent := actions } }

/-- An action in flight, its pulse driven or ended, its target sensed or not. -/
def flying (s : State) (a : Action) (pulse : Timer) (seen : Bool) : State :=
  { s with rsq := { s.rsq with inFlight := some ⟨a, pulse, 1000, seen⟩ } }

/-- A standard lane with an action for each of 32 outlets from this one on. -/
def fullLane (first : Nat) : List Action :=
  (List.range 32).map fun i => ⟨Fin.ofNat 48 (first + i), .closeRelay, .manual, none⟩

/-- A manually opened outlet. -/
def manualOutlet : Outlet :=
  { Outlet.reset with
    commanded := .opened, reason := .manual, feedback := .opened, remembered := some ⟨500, 600, 300⟩ }

/-- An outlet whose relay is not trusted. -/
def faultedOutlet : Outlet := { Outlet.reset with actuator := .faulted }

/-- A serving CONTRACTED outlet of slot 2 with this rank and real power (03_reconciliation.md, worked case). -/
def serving (rank : Fin 16) (p : Nat) : Outlet :=
  { Outlet.reset with slot := some 2, cls := .contracted, rank := rank, reading := ⟨⟨p, p, 4000⟩, .ok, false, 0⟩ }

/-- A dynamic entry of slot 2 without adjustment, fresh. -/
def peer (station contribution : Nat) (shed restore : Option Candidate) : DynEntry :=
  { slot := 2, station := station, contribution := contribution, code := 600, state := .burst, shed := shed
    restore := restore, age := 0, stamp := 0, adjustment := none, mismatch := false }

/-- One place of the Contribution Table filled. -/
def withEntry (s : State) (i : PlaceIx) (e : DynEntry) : State := s.setEntry i (some e)

/-- One fixed entry loaded. -/
def withFixed (s : State) (n : FixedIx) (e : FixedEntry) : State :=
  { s with ctb := { s.ctb with fixed := s.ctb.fixed.set n.val (some e) } }

/-- Tenant 679 of the worked case. -/
def tenant679 : Tenant :=
  { tenantId := some 679, contractCode := 600, burst := 20, mode := .real, allowance := 15, restorePercent := 90
    restoreHold := 5 }

/-- Station 3 of 03_reconciliation.md's worked case with this credit left, without the peers' entries. -/
def stationThree (credit : Nat) : State :=
  let s : State :=
    { running with
      station := { Station.default with id := 3 }
      tenants := running.tenants.set 2 tenant679
      outlets := ((running.outlets.set 4 (serving 3 9060)).set 5 (serving 3 12400)).set 9 (serving 5 20000)
      tly := { running.tly with timer := some 1, count := 2 }
      rlc := { running.rlc with link := .active } }
  s.setSlot 2 { SlotRuntime.reset with state := .burst, credit := credit }

/-- The same with the entries of stations 7 and 12, the latter with this contribution and candidates. -/
def workedCase (credit contribution : Nat) (shed restore : Option Candidate) : State :=
  withEntry (withEntry (stationThree credit) 0 (peer 7 22300 none none)) 1 (peer 12 contribution shed restore)

/-- Slot 2's record after the next tally. -/
def tallied (s : State) : SlotRuntime := (after (exec .tallyTimerExpiry s)).slot 2

/-! ### The spec's worked figures -/

/-- 02_metering_and_calibration.md, worked figures: outlet 4. -/
theorem test_calibration_of_outlet_4 :
    calibrate { Outlet.reset with gains := #v[1, 33000, 1, 1], offset := -4 } 1 ⟨9000, 9400, 4100, .ok⟩ =
      (⟨9060, 9463, 4129⟩, .ok) := by decide +kernel

/-- 02_metering_and_calibration.md, worked figures: a half of 1 goes up to 1, of −1 to 0, and −1.5 ends at 0. -/
theorem test_calibration_rounds_halves_up :
    [1, -1, -3].map (fun n : Int =>
      (calibrate { Outlet.reset with gains := #v[16384, 1, 1, 1] } 0 ⟨BitVec.ofInt 16 n, 0, 0, .ok⟩).1.p) = [1, 0, 0] := by
  decide +kernel

/-- 02_metering_and_calibration.md, worked figures: the heavy load at band 3 reads CLIPPED. -/
theorem test_calibration_of_heavy_load :
    calibrate { Outlet.reset with gains := #v[1, 1, 1, 45000] } 3 ⟨30000, 29000, 0, .ok⟩ =
      (⟨40000, 40000, 0⟩, .clipped) := by decide +kernel

/-- R21's example: 36.4, 37.0, 34.1 and 32.9 °C from band 1. -/
theorem test_bands_of_four_sweeps :
    (nextBand 1 364, nextBand 1 370, nextBand 2 341, nextBand 2 329) = (1, 2, 2, 1) := by decide

/-- 03_reconciliation.md, worked case, tally 1. -/
theorem test_tally_1 :
    let r := tallied (workedCase 30000 9800 (some ⟨1, 4000⟩) none)
    (r.localDraw, r.aggregate, r.contract, r.allowance, r.uncovered, r.credit, r.state) =
      (41505, 73605, 60000, 1200000, 0, 16395, .burst) := by decide +kernel

/-- 03_reconciliation.md, worked case, tally 3, with its notice. -/
theorem test_tally_3 :
    let t := after (exec .tallyTimerExpiry (workedCase 2790 9800 (some ⟨1, 4000⟩) none))
    ((t.slot 2).uncovered, (t.slot 2).credit, t.nq.queue) =
      (10815, 0, [⟨3, .tenantState 2 .burst .overdrawn⟩]) := by decide +kernel

/-- 03_reconciliation.md, worked case, tally 5: station 12's NOTE counts against its entry. -/
theorem test_tally_5 :
    let note : HeardNote := ⟨2, 12, .shed, 1, 4000, 4⟩
    let s := workedCase 0 9800 (some ⟨1, 4000⟩) none
    (tallied (after (exec .ctbNote { s with ctb := { s.ctb with notes := [note] } }))).uncovered = 9605 := by
  decide +kernel

/-- 09_energy_and_overage_accounting.md, worked figure, tally 3. -/
theorem test_overage_of_tally_3 :
    let s := after (exec .tallyTimerExpiry (workedCase 2790 9800 (some ⟨1, 4000⟩) none))
    let s := s.setCounters 2 { SlotCounters.zero with overage := ⟨7, 12500, false⟩ }
    let c := (after (exec .ectTallyCompletion s)).counters 2
    (c.lastAttributed, c.overage) = (6098, ⟨7, 18598, false⟩) := by decide +kernel

/-- R178's check figure. -/
theorem test_crc_of_nine_digits : crc [0x31, 0x32, 0x33, 0x34, 0x35, 0x36, 0x37, 0x38, 0x39] = 0x29B1 := by
  decide +kernel

/-- 11_formats.md: station 3's SHED NOTE for tenant 1204, rank 2, draw 6,000, tally 410. -/
theorem test_bytes_of_note :
    (frameBytes 3 (.note 1204 .shed 2 6000 (410 % 256))).take 7 = [0x03, 0x04, 0xB4, 0x02, 0x17, 0x70, 0x9A] := by
  decide +kernel

/-- R159, R180: the bytes of OUTLET OPEN for outlet 47 with one byte beyond, of LOAD TENANT cut short, of code 8, which the
table lacks, and of a transaction without a command. -/
theorem test_bytes_pick_commands :
    [readTransaction [0x30, 1, 47, 9] 5, readTransaction [17, 2, 1] 5, readTransaction [8, 0] 5,
        readTransaction [0, 1, 2] 5, readTransaction [33] 5] =
      [.outletOpen ⟨[47], [9]⟩ 5, .cutShortRecord 17 2 [1], .unknownCommandCode 8 ⟨[], []⟩,
        .noCommandTransaction [0, 1, 2], .noCommandTransaction [33]] := by decide

/-! ### Witnesses: the step, resets and transactions -/

theorem test_witness_StepTakesFrontCommand :
    ({ running with pending := [.powerOn, .lateReply ⟨0, 0, 0, .ok⟩] } : State).pending =
      .powerOn :: [.lateReply ⟨0, 0, 0, .ok⟩] := rfl

theorem test_witness_EmptyQueuePassesOneTick :
    let s : State := { running with osu := { running.osu with stage := .readingSensor 1 } }
    let u : State := { running with osu := { running.osu with stage := .requesting 375 } }
    (running.pending = [] ∧ running.resetHeld = false ∧ running.osu.stage = .idle) ∧
      (s.pending = [] ∧ s.resetHeld = false ∧ s.osu.stage = .readingSensor 1) ∧
      (u.pending = [] ∧ u.resetHeld = false ∧ u.osu.stage = .requesting 375) ∧
      ({ running with resetHeld := true } : State).resetHeld = true := by decide +kernel

theorem test_witness_EveryCommandAnswersNext :
    ({ running with resetHeld := true } : State).resetHeld = true ∧ Instr.enterRun ≠ .powerOn ∧
      Instr.enterRun ≠ .resetPinAssert ∧ Instr.enterRun ≠ .resetPinRelease := by decide +kernel

theorem test_witness_RestartKeepsConfigurationAlone :
    running.resetHeld = false ∧ (⟨[], [0]⟩ : Record).params = [] := by decide +kernel

theorem test_witness_TransactionReturnsTheReply :
    let s : State := { running with mpt := { running.mpt with buffer := some ⟨1, .ok, [7]⟩, ready := true } }
    running.resetHeld = false ∧ noCommandWf [] = true ∧ noCommandWf [5] = true ∧ noCommandWf [0, 5, 6] = true ∧
      running.mpt.ready = false ∧ s.resetHeld = false ∧ s.mpt.ready = true ∧
      s.mpt.buffer = some ⟨1, .ok, [7]⟩ := by decide +kernel

theorem test_witness_BadRecordsAndLengthsAreRefused :
    running.resetHeld = false ∧ cutShortWf 2 1 [] = true ∧ cutShortWf 255 255 (List.replicate 254 0) = true ∧
      unknownCodeWf 8 = true ∧ unknownCodeWf 0x35 = true ∧ unknownCodeWf 255 = true ∧
      portRow (.readTenant ⟨[], []⟩) = some (2, 1, ⟨[], []⟩) ∧ (⟨[], []⟩ : Record).params.length ≠ 1 := by decide +kernel

/-- One byte; code 0; one parameter byte short; a whole record with a byte beyond; code 0x35, which the table lacks; and a
reply waiting or not. -/
theorem test_witness_BytesPickTheCommand :
    let ready : State := { running with mpt := { running.mpt with buffer := some ⟨1, .ok, [7]⟩, ready := true } }
    [(48 : Byte)].length < 2 ∧ [(0 : Byte), 1, 47].head? = some 0 ∧ (48 : Byte) ≠ 0 ∧
      ([] : List Byte).length < (1 : Byte).toNat ∧ (1 : Byte).toNat ≤ [(47 : Byte), 9].length ∧
      portRow (.outletOpen ⟨[47], [9]⟩ 0) =
        some (48, 1, ⟨[(47 : Byte), 9].take (1 : Byte).toNat, [(47 : Byte), 9].drop (1 : Byte).toNat⟩) ∧
      Brings (.outletOpen ⟨[47], [9]⟩ 0) 0 ∧
      (0x35 : Byte).toNat ∉ [1, 2, 3, 4, 5, 6, 7, 16, 17, 18, 19, 20, 21, 32, 33, 48, 49, 50, 51, 52] ∧
      running.resetHeld = false ∧ running.mpt.ready = false ∧ ready.mpt.ready = true ∧
      ready.mpt.buffer = some ⟨1, .ok, [7]⟩ := by
  refine ⟨by decide, by decide, by decide, by decide, by decide, rfl, rfl, by decide, rfl, rfl, rfl, rfl⟩

/-- The ends of a signed number's range, and a port with and without a reply. -/
theorem test_witness_RepliesAreCodedByTheTables :
    let ready : Mpt := { Mpt.reset with buffer := some ⟨1, .ok, [7]⟩, ready := true }
    ((-32768 : Int) ≤ 32767 ∧ (-32768 : Int) ≤ -32768) ∧ Mpt.reset.ready = false ∧ ready.ready = true ∧
      ready.buffer = some ⟨1, .ok, [7]⟩ := by decide

theorem test_witness_WrongPhaseIsRefused :
    portRow (.start ⟨[], []⟩ 0) = some (32, 0, ⟨[], []⟩) ∧ portRow (.setBand ⟨[4], []⟩) = some (51, 1, ⟨[4], []⟩) ∧
      portRow (.rearm ⟨[48], []⟩ 0) = some (50, 1, ⟨[48], []⟩) ∧ running.resetHeld = false ∧
      running.mpt.phase ≠ .config ∧ State.reset.resetHeld = false ∧ State.reset.mpt.phase ≠ .run ∧
      (32 : Byte).toNat ∈ [16, 17, 18, 19, 20, 21, 32] ∧ (51 : Byte).toNat ∈ [51, 52] := by decide +kernel

/-! ### Witnesses: reads and loads -/

theorem test_witness_ReadStatusReportsAndClearsLost :
    ({ running with nq := ⟨[], true⟩ } : State).resetHeld = false ∧ (⟨[], []⟩ : Record).params = [] := by
  decide +kernel

/-- The highest index of each record, and the lowest that is none. -/
theorem test_witness_RecordReadsReport :
    running.resetHeld = false ∧ (15 : SlotIx).val = (15 : Byte).toNat ∧ (47 : OutletIx).val = (47 : Byte).toNat ∧
      (5 : BranchIx).val = (5 : Byte).toNat ∧ 16 ≤ (16 : Byte).toNat ∧ 48 ≤ (48 : Byte).toNat ∧
      6 ≤ (6 : Byte).toNat := by decide +kernel

/-- The running part with its cursor here. -/
def atCursor (i : Fin 136) (s : State) : State := { s with mpt := { s.mpt with cursor := i } }

theorem running_entry (i : PlaceIx) : running.entry i = none :=
  (by decide +kernel : ∀ i : PlaceIx, running.entry i = none) i

theorem running_fixedEntry (n : FixedIx) : running.fixedEntry n = none :=
  (by decide +kernel : ∀ n : FixedIx, running.fixedEntry n = none) n

/-- The last dynamic place in use, the cursor on it: the first clause's data, and the others do not apply. -/
theorem test_witness_CursorWalksTheTable_dynamic :
    let s := atCursor 127 (withEntry running 127 (peer 63 16777215 none none))
    s.resetHeld = false ∧ s.mpt.cursor.val = (127 : PlaceIx).val ∧
      s.entry 127 = some (peer 63 16777215 none none) ∧ (∀ n : FixedIx, 128 + n.val ≠ s.mpt.cursor.val) := by
  decide +kernel

/-- An empty dynamic place, the first. -/
theorem test_witness_CursorWalksTheTable_empty :
    let s := atCursor 0 running
    s.resetHeld = false ∧ s.mpt.cursor.val = (0 : PlaceIx).val ∧ s.entry 0 = none ∧
      (∀ n : FixedIx, 128 + n.val ≠ s.mpt.cursor.val) := by decide +kernel

/-- The first and the last fixed entry, loaded and not, and the indices SET CURSOR takes and refuses. -/
theorem test_witness_CursorWalksTheTable_fixed :
    let s := atCursor 135 running
    let u := atCursor 128 (withFixed running 0 ⟨2, 500, some 7⟩)
    s.resetHeld = false ∧ 128 + (7 : FixedIx).val = s.mpt.cursor.val ∧ s.fixedEntry 7 = none ∧
      (∀ i : PlaceIx, i.val ≠ s.mpt.cursor.val) ∧
      u.resetHeld = false ∧ 128 + (0 : FixedIx).val = u.mpt.cursor.val ∧
      u.fixedEntry 0 = some ⟨2, 500, some 7⟩ ∧ (∀ i : PlaceIx, i.val ≠ u.mpt.cursor.val) ∧
      (135 : Fin 136).val = (135 : Byte).toNat ∧ 136 ≤ (136 : Byte).toNat := by decide +kernel

theorem test_witness_ReadNoticesTakesTheOldest :
    running.resetHeld = false ∧ (1 ≤ (1 : Byte).toNat ∧ (1 : Byte).toNat ≤ 8) ∧
      (1 ≤ (8 : Byte).toNat ∧ (8 : Byte).toNat ≤ 8) ∧ (0 : Byte).toNat = 0 ∧ 8 < (9 : Byte).toNat := by decide +kernel

/-- The running part with this many notices held and every kind enabled but that of LINK_UP, kind 16. -/
def holding (n : Nat) : State :=
  { running with
    station := { Station.default with kindMask := 0x37FFF }
    nq := ⟨List.replicate n ⟨1, .linkDown⟩, false⟩ }

/-- A disabled kind; an enabled one with 62 and with 63 held. -/
theorem test_witness_NoticesQueueByMaskAndRoom :
    (holding 0).station.kindMask.getLsbD (kindNumber .linkUp - 1) = false ∧
      (holding 62).station.kindMask.getLsbD (kindNumber .tempSensorFail - 1) = true ∧
      (holding 62).nq.queue.length < 63 ∧ 63 ≤ (holding 63).nq.queue.length := by decide +kernel

/-- R173, R182: ACTION_DONE of outlet 47, an OPEN of BRANCH origin SUPERSEDED, stamped 0x01020304. -/
theorem test_record_of_action_done :
    (Notice.mk 0x01020304 (.actionDone 47 .openRelay .branch .superseded)).bytes =
      [10, 1, 2, 3, 4, 47, 0, 1, 3, 0, 0, 0] := by decide

/-- Every field at the top of its range, and a threshold that is not in the list. -/
theorem test_witness_LoadStationWritesParameters :
    State.reset.resetHeld = false ∧ State.reset.mpt.phase = .config ∧ (3 : Band).val = (3 : Byte).toNat ∧
      ((63 : Byte).toNat ≤ 63 ∧ (1 ≤ (8 : Byte).toNat ∧ (8 : Byte).toNat ≤ 8) ∧
        (1 ≤ (15 : Byte).toNat ∧ (15 : Byte).toNat ≤ 15) ∧ (15 : Byte).toNat ≤ 15 ∧ (1 : Byte).toNat ≤ 1 ∧
        (3 : Byte).toNat ≤ 3 ∧ (32 : Byte).toNat ∈ [1, 2, 4, 8, 16, 32] ∧
        (3 : Byte).toNat * 65536 + (255 : Byte).toNat * 256 + (255 : Byte).toNat < 262144) ∧
      ¬ (3 : Byte).toNat ∈ [1, 2, 4, 8, 16, 32] := by decide +kernel

/-- ID 4095 into the last slot, ID 0, and an ID one too high. -/
theorem test_witness_LoadTenantWritesSlot :
    State.reset.resetHeld = false ∧ State.reset.mpt.phase = .config ∧ (15 : SlotIx).val = (15 : Byte).toNat ∧
      ((15 : Byte).toNat < 16 ∧ (15 : Byte).toNat * 256 + (255 : Byte).toNat ≤ 4095 ∧ (1 : Byte).toNat ≤ 1 ∧
        (50 ≤ (100 : Byte).toNat ∧ (100 : Byte).toNat ≤ 100) ∧ 1 ≤ (60 : Byte).toNat ∧ (60 : Byte).toNat ≤ 60) ∧
      (0 : Byte).toNat * 256 + (0 : Byte).toNat = 0 ∧
      ¬ (16 : Byte).toNat * 256 + (0 : Byte).toNat ≤ 4095 := by decide +kernel

/-- The last outlet with the last slot and with none, the offset at both ends, a branch and a fixed entry at the top of
their ranges; and one value out of range for each record. -/
theorem test_witness_RecordLoadsWriteTheirRecord :
    State.reset.resetHeld = false ∧ State.reset.mpt.phase = .config ∧
      ((47 : OutletIx).val = (47 : Byte).toNat ∧ (15 : Fin 16).val = (15 : Byte).toNat ∧
        ((some 15 : Option SlotIx).map Fin.val).getD 255 = (15 : Byte).toNat ∧
        ((none : Option SlotIx).map Fin.val).getD 255 = (255 : Byte).toNat ∧ (2 : Byte).toNat ≤ 2 ∧
        ¬ ((16 : Byte).toNat < 16 ∨ (16 : Byte).toNat = 255)) ∧
      (((0x01 : Byte) ++ (0xFF : Byte)).toInt = 511 ∧ ((0xFE : Byte) ++ (0x00 : Byte)).toInt = -512 ∧
        ¬ ((0x02 : Byte) ++ (0x00 : Byte)).toInt ≤ 511) ∧
      ((5 : BranchIx).val = (5 : Byte).toNat ∧ (125 : Byte).toNat * 256 + (0 : Byte).toNat = 32000 ∧
        (95 : Byte).toNat ≤ 95 ∧ (250 : Byte).toNat ≤ 250 ∧ (10 : Byte).toNat = 10 ∧ ¬ (6 : Byte).toNat < 6) ∧
      (7 : FixedIx).val + 1 = (8 : Byte).toNat ∧ (63 : Byte).toNat ≤ 63 ∧ ¬ 1 ≤ (0 : Byte).toNat := by
  decide +kernel

/-! ### Witnesses: start-up and commands in RUN -/

/-- A usable configuration: station 3 with tenant 679 in slot 2 and one outlet. -/
def configured : State :=
  { State.reset with
    station := { Station.default with id := 3 }
    tenants := State.reset.tenants.set 2 tenant679
    outlets := State.reset.outlets.set 4 (serving 3 0) }

theorem configured_fixedEntry (n : FixedIx) : configured.fixedEntry n = none :=
  (by decide +kernel : ∀ n : FixedIx, configured.fixedEntry n = none) n

theorem test_witness_StartEntersWarmup :
    configured.resetHeld = false ∧ configured.mpt.phase = .config ∧ configured.station.id ≠ 0 ∧
      (∃ k, configured.inUse k = true) ∧
      (∀ j k, configured.inUse j = true → configured.inUse k = true →
        (configured.tenant j).tenantId = (configured.tenant k).tenantId → j = k) ∧
      (∀ o k, (configured.outlet o).slot = some k → configured.inUse k = true) ∧
      ∀ n e, configured.fixedEntry n = some e →
        configured.inUse e.slot = true ∧ e.covers ≠ some configured.station.id := by
  refine ⟨by decide +kernel, by decide +kernel, by decide +kernel, by decide +kernel, by decide +kernel,
    by decide +kernel, fun n e h => ?_⟩
  simp [configured_fixedEntry] at h

/-- No station ID; no slot in use; slot 3 repeats slot 2. -/
theorem test_witness_StartRefusedNamesFirstFailure_tenants :
    let twice : State := { configured with tenants := configured.tenants.set 3 tenant679 }
    let empty : State := { State.reset with station := { Station.default with id := 63 } }
    State.reset.resetHeld = false ∧ State.reset.mpt.phase = .config ∧ State.reset.station.id = 0 ∧
      empty.station.id ≠ 0 ∧ (∀ k, empty.inUse k = false) ∧
      twice.station.id ≠ 0 ∧ (twice.inUse 3 = true ∧
        ∃ j, j < 3 ∧ twice.inUse j = true ∧ (twice.tenant j).tenantId = (twice.tenant 3).tenantId) ∧
      ∀ j, j < 3 → ¬ (twice.inUse j = true ∧
        ∃ i, i < j ∧ twice.inUse i = true ∧ (twice.tenant i).tenantId = (twice.tenant j).tenantId) := by
  decide +kernel

/-- No slot repeats another; outlet 47 alone names a free slot. -/
theorem test_witness_StartRefusedNamesFirstFailure_outlets :
    let s : State :=
      { configured with outlets := configured.outlets.set 47 { Outlet.reset with slot := some 15 } }
    s.station.id ≠ 0 ∧ (∃ k, s.inUse k = true) ∧
      (∀ k, ¬ (s.inUse k = true ∧
        ∃ j, j < k ∧ s.inUse j = true ∧ (s.tenant j).tenantId = (s.tenant k).tenantId)) ∧
      (∃ k, (s.outlet 47).slot = some k ∧ s.inUse k = false) ∧
      ∀ o, o < 47 → ¬ ∃ k, (s.outlet o).slot = some k ∧ s.inUse k = false := by decide +kernel

/-- No outlet names a free slot; the first fixed entry names one, the last covers the own station. -/
theorem test_witness_StartRefusedNamesFirstFailure_fixed :
    let s := withFixed configured 0 ⟨15, 100, none⟩
    let u := withFixed configured 7 ⟨2, 100, some 3⟩
    (∀ o, ¬ ∃ k, (s.outlet o).slot = some k ∧ s.inUse k = false) ∧
      (∃ e, s.fixedEntry 0 = some e ∧ (s.inUse e.slot = false ∨ e.covers = some s.station.id)) ∧
      (∃ e, u.fixedEntry 7 = some e ∧ (u.inUse e.slot = false ∨ e.covers = some u.station.id)) ∧
      ∀ m, m < 7 → ¬ ∃ e, u.fixedEntry m = some e ∧ (u.inUse e.slot = false ∨ e.covers = some u.station.id) := by
  refine ⟨by decide +kernel, ⟨⟨15, 100, none⟩, by decide +kernel, .inl (by decide +kernel)⟩,
    ⟨⟨2, 100, some 3⟩, by decide +kernel, .inr (by decide +kernel)⟩, ?_⟩
  rintro m hm ⟨e, h, -⟩
  have key : ∀ m : FixedIx, m < 7 → (withFixed configured 7 ⟨2, 100, some 3⟩).fixedEntry m = none := by
    decide +kernel
  exact absurd ((key m hm).symm.trans h) (by simp)

/-- A contracted slot beside an in-use slot whose own code is 0, and the own code as the least. -/
theorem test_witness_EnterRunFillsEveryCredit :
    let s : State :=
      { configured with
        tenants := configured.tenants.set 15 { tenant679 with tenantId := some 680, contractCode := 0 }
        mpt := { configured.mpt with phase := .warmup }, osu := { configured.osu with warmup := 8 } }
    s.resetHeld = false ∧ s.mpt.phase = .warmup ∧ s.osu.warmup = 8 ∧ s.inUse 0 = false ∧ s.inUse 2 = true ∧
      (s.tenant 2).contractCode ≠ 0 ∧ IsLeastCode s 2 600 ∧ s.inUse 15 = true ∧ (s.tenant 15).contractCode = 0 ∧
      ¬ (State.reset.mpt.phase = .warmup ∧ State.reset.osu.warmup = 8) := by
  refine ⟨by decide +kernel, by decide +kernel, by decide +kernel, by decide +kernel, by decide +kernel,
    by decide +kernel, ⟨.inl (by decide +kernel), by decide +kernel, fun i e h => ?_⟩, by decide +kernel,
    by decide +kernel, by decide +kernel⟩
  exact absurd ((running_entry i).symm.trans h) (by simp)

/-- An action of the standard lane for outlet 4. -/
def standard4 (kind : ActionKind) : Action := ⟨4, kind, .manual, none⟩

/-- A BRANCH OPEN for outlet 4. -/
def urgent4 : Action := ⟨4, .openRelay, .branch, none⟩

/-- Each clause's standing of outlet 47 or 4, the lane at 31 and at 32 actions among them. -/
theorem test_witness_OutletOpenActsByStanding :
    let full := queuedStandard running (fullLane 5)
    running.resetHeld = false ∧ running.mpt.phase = .run ∧ (47 : OutletIx).val = (47 : Byte).toNat ∧
      ((running.setOutlet 4 faultedOutlet).outlet 4).actuator = .faulted ∧
      (running.outlet 47).actuator = .enabled ∧ (running.outlet 47).reason = .none ∧
      ((running.setOutlet 4 manualOutlet).outlet 4).reason = .manual ∧
      ((running.setOutlet 4 { manualOutlet with reason := .branch }).outlet 4).reason = .branch ∧
      running.pendingFor 47 = none ∧ (queuedStandard running ((fullLane 5).take 31)).pendingFor 4 = none ∧
      (queuedStandard running ((fullLane 5).take 31)).rsq.standard.length < 32 ∧
      full.pendingFor 4 = none ∧ 32 ≤ full.rsq.standard.length ∧
      (queuedStandard running (fullLane 4)).pendingFor 4 = some ⟨standard4 .closeRelay, false⟩ ∧
      (queuedStandard running (fullLane 4)).rsq.urgent.all (·.outlet != 4) = true ∧
      (queuedStandard running (fullLane 4)).rsq.standard.length ≤ 32 ∧
      (queuedUrgent running [urgent4]).pendingFor 4 = some ⟨urgent4, false⟩ ∧
      (flying running (standard4 .closeRelay) none false).pendingFor 4 = some ⟨standard4 .closeRelay, true⟩ ∧
      (queuedStandard running [standard4 .rearm]).pendingFor 4 = some ⟨standard4 .rearm, false⟩ := by
  decide +kernel

theorem test_witness_OutletCloseActsByStanding :
    let s := running.setOutlet 4 manualOutlet
    let opens (n : Nat) := standard4 .openRelay :: (fullLane 5).take n
    s.resetHeld = false ∧ s.mpt.phase = .run ∧ (s.outlet 4).actuator = .enabled ∧ (s.outlet 4).reason = .manual ∧
      (running.outlet 4).reason ≠ .manual ∧ s.pendingFor 4 = none ∧
      (queuedStandard s ((fullLane 5).take 31)).rsq.standard.length < 32 ∧
      (queuedStandard s (fullLane 5)).pendingFor 4 = none ∧ 32 ≤ (queuedStandard s (fullLane 5)).rsq.standard.length ∧
      (queuedStandard s (opens 31)).pendingFor 4 = some ⟨standard4 .openRelay, false⟩ ∧
      (standard4 .openRelay).lane = .standard ∧ (queuedStandard s (opens 31)).rsq.standard.length = 32 ∧
      (queuedUrgent s [urgent4]).pendingFor 4 = some ⟨urgent4, false⟩ ∧ urgent4.lane = .urgent ∧
      (queuedUrgent (queuedStandard s (fullLane 5)) [urgent4]).pendingFor 4 = some ⟨urgent4, false⟩ ∧
      (queuedStandard s [standard4 .closeRelay]).pendingFor 4 = some ⟨standard4 .closeRelay, false⟩ ∧
      (flying s (standard4 .openRelay) (some 1) false).pendingFor 4 = some ⟨standard4 .openRelay, true⟩ ∧
      (queuedStandard s [standard4 .rearm]).pendingFor 4 = some ⟨standard4 .rearm, false⟩ := by decide +kernel

theorem test_witness_RearmActsByStanding :
    let s := running.setOutlet 4 faultedOutlet
    let closes := fullLane 4
    s.resetHeld = false ∧ s.mpt.phase = .run ∧ (s.outlet 4).actuator = .faulted ∧
      (running.outlet 4).actuator = .enabled ∧ s.pendingFor 4 = none ∧ s.rsq.standard.length < 32 ∧
      (queuedStandard s (fullLane 5)).pendingFor 4 = none ∧ 32 ≤ (queuedStandard s (fullLane 5)).rsq.standard.length ∧
      (queuedStandard s [standard4 .rearm]).pendingFor 4 = some ⟨standard4 .rearm, false⟩ ∧
      (queuedStandard s closes).pendingFor 4 = some ⟨standard4 .closeRelay, false⟩ ∧
      (s.rsq.urgent ++ closes).filter (fun c => c.outlet == 4) = [standard4 .closeRelay] ∧
      (standard4 .closeRelay).lane = .standard ∧ closes.length = 32 ∧
      (queuedUrgent (queuedStandard s (fullLane 5)) [urgent4]).pendingFor 4 = some ⟨urgent4, false⟩ ∧
      urgent4.kind ≠ .rearm ∧ urgent4.lane = .urgent := by decide +kernel

theorem test_witness_BandAndCountersInRun :
    let manual : State := { running with station := { running.station with autoBand := false } }
    running.resetHeld = false ∧ running.mpt.phase = .run ∧ 48 ≤ (48 : Byte).toNat ∧
      running.station.autoBand = true ∧ manual.resetHeld = false ∧ manual.mpt.phase = .run ∧
      manual.station.autoBand = false ∧ (3 : Band).val = (3 : Byte).toNat ∧ 4 ≤ (4 : Byte).toNat ∧
      (47 : OutletIx).val = (47 : Byte).toNat ∧ (15 : SlotIx).val = (15 : Byte).toNat ∧
      16 ≤ (16 : Byte).toNat ∧ 4 ≤ (4 : Byte).toNat := by decide +kernel

/-! ### Witnesses: metering -/

/-- The running part with its scan unit here. -/
def scanning (timer : Timer) (stage : SweepStage) (scan : OutletIx) : State :=
  { running with osu := { running.osu with sweepTimer := timer, stage := stage, scan := scan } }

theorem test_witness_SweepStartSettlesItsBand_timer :
    running.resetHeld = false ∧ running.osu.sweepTimer = none ∧ (scanning (some 1) .idle 0).osu.sweepTimer ≠ none ∧
      (scanning (some 1) .idle 0).osu.stage = .idle ∧ (scanning (some 1) (.requesting 1) 47).osu.stage ≠ .idle ∧
      (scanning (some 1) (.requesting 1) 47).osu.sweepTimer ≠ none := by decide +kernel

theorem test_witness_SweepStartSettlesItsBand :
    let s := scanning (some 25000) (.readingSensor 1250) 0
    s.resetHeld = false ∧ s.osu.stage = .readingSensor 1250 ∧ s.osu.band = 1 ∧ (-401 : Int) < -400 ∧
      (1250 : Int) < 1251 := by decide +kernel

/-- The ends of the sensor's range and the edges of band 1's stay range. -/
theorem test_witness_SweepStartSettlesItsBand_temperatures :
    (inStayRange 1 130 ∧ inStayRange 1 369) ∧ (¬ inStayRange 1 370 ∧ IsPlainBand 2 370) ∧
      (¬ inStayRange 1 (-400) ∧ IsPlainBand 0 (-400)) ∧ (¬ inStayRange 1 1250 ∧ IsPlainBand 3 1250) := by
  simp [inStayRange, IsPlainBand]

theorem test_witness_VisitsEndByTheirOutcome :
    let s := scanning (some 1) (.requesting 1) 46
    s.resetHeld = false ∧ s.osu.stage = .requesting 1 ∧ s.osu.scan = 46 ∧ (47 : OutletIx).val = (46 : OutletIx).val + 1 ∧
      (⟨0x8000, 0xFFFF, 0xFFFF, .clipped⟩ : FrontEndReply).status ≠ .other := by decide +kernel

theorem test_witness_VisitsEndByTheirOutcome_silent :
    let s := scanning (some 1) (.requesting 375) 0
    s.resetHeld = false ∧ s.osu.stage = .requesting 375 ∧ s.osu.scan = 0 ∧ (1 : OutletIx).val = (0 : OutletIx).val + 1 ∧
      (⟨0, 0, 0, .other⟩ : FrontEndReply).status = .other := by decide +kernel

theorem test_witness_SweepCompletionGoesByPhase :
    let s := scanning (some 1) (.requesting 1) 47
    s.resetHeld = false ∧ s.osu.stage = .requesting 1 ∧ s.osu.scan = 47 ∧
      (⟨0, 0, 0, .other⟩ : FrontEndReply).status = .other ∧ (⟨0, 0, 0, .ok⟩ : FrontEndReply).status ≠ .other := by
  decide +kernel

theorem test_witness_VisitsEndByTheirOutcome_late :
    let s := running.setOutlet 47 { Outlet.reset with countdown := 1, direction := some .closed }
    s.resetHeld = false ∧ s.osu.stage = .idle ∧ (s.outlet 47).countdown = 1 ∧ (s.outlet 0).countdown ≠ 1 := by
  decide +kernel

/-! ### Witnesses: reconciliation and energy -/

/-- One state for each of the six cases, with outlet 4. -/
theorem test_witness_CountedDrawHasFourCases :
    let settling (d : Position) := running.setOutlet 4 { Outlet.reset with countdown := 1, direction := some d }
    (flying running (standard4 .openRelay) (some 1) false).pendingFor 4 = some ⟨standard4 .openRelay, true⟩ ∧
      (queuedStandard running [standard4 .closeRelay]).pendingFor 4 = some ⟨standard4 .closeRelay, false⟩ ∧
      (queuedStandard (settling .opened) [standard4 .rearm]).pendingFor 4 = some ⟨standard4 .rearm, false⟩ ∧
      ((settling .opened).outlet 4).direction = some .opened ∧ 0 < ((settling .opened).outlet 4).countdown ∧
      (settling .closed).pendingFor 4 = none ∧ ((settling .closed).outlet 4).direction = some .closed ∧
      running.pendingFor 4 = none ∧ (running.outlet 4).countdown = 0 ∧ (running.outlet 4).feedback = .closed ∧
      ((running.setOutlet 4 manualOutlet).outlet 4).feedback = .opened := by decide +kernel

/-- One action in flight and one in each lane, each for an outlet of its own. -/
def busyLanes : State :=
  flying (queuedStandard (queuedUrgent running [urgent4]) [⟨47, .rearm, .manual, none⟩])
    ⟨0, .closeRelay, .tenant, some 2⟩ (some 1) false

theorem test_witness_PendingActionIsTheOneHeld :
    LanesHold busyLanes ∧ (∃ f, busyLanes.rsq.inFlight = some f ∧ f.action.outlet = 0) ∧
      urgent4 ∈ busyLanes.rsq.urgent ∧ (∀ a ∈ heldActions busyLanes, a.outlet ≠ 46) := by
  refine ⟨⟨by decide +kernel, by decide +kernel, by decide +kernel, by decide +kernel, by decide +kernel, ?_⟩,
    ⟨_, rfl, rfl⟩, by decide +kernel, by decide +kernel⟩
  intro f h
  cases (Option.mem_some.mp h)
  decide +kernel

theorem test_witness_TallyComputesEverySlot :
    let s := stationThree 0
    let u := withTenant s 15 { tenant679 with tenantId := some 4095, contractCode := 0 }
    s.resetHeld = false ∧ s.tly.timer = some 1 ∧ s.inUse 0 = false ∧ s.inUse 2 = true ∧
      (s.tenant 2).contractCode ≠ 0 ∧ u.inUse 15 = true ∧ (u.tenant 15).contractCode = 0 := by decide +kernel

theorem test_witness_EnergyCompletionAccounts :
    let s : State := { stationThree 0 with ect := { running.ect with tallies := [4294967295, 0] } }
    s.resetHeld = false ∧ s.ect.tallies = 4294967295 :: [0] ∧ (s.tenant 2).contractCode ≠ 0 := by decide +kernel

/-! ### Witnesses: curtailment -/

theorem stationThree_entry (credit : Nat) (i : PlaceIx) : (stationThree credit).entry i = none := running_entry i

/-- Station 3 with slot 2 OVER, or in another state, and these items in the CUR. -/
def judged (s : State) (st : TenantState) (c : CurSlot) : State :=
  (s.setSlot 2 { s.slot 2 with state := st, contract := 60000, aggregate := 50000 }).setCurSlot 2 c

theorem test_witness_OwnCandidatesAreChosenByRank :
    IsOwnShed (stationThree 0) 2 5 ∧ (∀ o, ¬ MayShed running 2 o) ∧ (∀ o, ¬ MayRestore running 2 o) ∧
      IsOwnRestore ((stationThree 0).setOutlet 4 { manualOutlet with slot := some 2, reason := .tenant }) 2 4 := by
  unfold IsOwnShed IsOwnRestore MayShed MayRestore
  decide +kernel

theorem test_witness_CurtailmentWorksSlotsInOrder :
    let s := judged (stationThree 0) .within CurSlot.reset
    let u := judged (stationThree 0) .recovery ⟨some 1, 3, true, false⟩
    s.resetHeld = false ∧ s.cur.tallies = [] ∧
      ({ s with cur := { s.cur with tallies := [7] } } : State).cur.tallies = 7 :: [] ∧ s.inUse 0 = false ∧
      s.inUse 2 = true ∧ (s.slot 2).state = .within ∧ (s.curSlot 2).settle = none ∧
      u.inUse 2 = true ∧ (u.slot 2).state ≠ .uncontracted ∧ (u.curSlot 2).settle ≠ none := by decide +kernel

theorem running_inView (k : SlotIx) (e : DynEntry) : ¬ EntryInView running k e := by
  rintro ⟨⟨i, h⟩, -⟩
  exact absurd ((running_entry i).symm.trans h) (by simp)

/-- The one entry of a state is the one in view. -/
theorem inView_eq {s : State} {d : DynEntry} {k : SlotIx} {e : DynEntry}
    (h : ∀ i, s.entry i = none ∨ s.entry i = some d) (he : EntryInView s k e) : e = d := by
  obtain ⟨⟨i, hi⟩, -⟩ := he
  rcases h i with h | h
  · exact absurd (h.symm.trans hi) (by simp)
  · exact (Option.some.inj (h.symm.trans hi)).symm

/-- R172: the completion of tally 7 is taken when the tally count is 2. SHED_ELECTED and the ACTION_DONE of the choice, for the
CLOSE of the FAULTED outlet 0 that stood at the head, both carry 7. -/
theorem test_late_completion_stamps_its_count :
    let s := (judged (queuedStandard (stationThree 0) [⟨0, .closeRelay, .manual, none⟩]) .overdrawn
      CurSlot.reset).setOutlet 0 faultedOutlet
    s.tly.count = 2 ∧ (s.curtailSlot 7 2).nq.queue.map (·.stamp) = [7, 7] ∧
      (s.curtailSlot 7 2).nq.queue.getLast?.map (·.body) =
        some (.actionDone 0 .closeRelay .manual .outletFaulted) := by decide +kernel

/-- No candidate in view; the own one first, the lane with room and full; a peer's first. -/
theorem test_witness_ShedElectionTakesTheFirst :
    let none2 := judged { stationThree 0 with outlets := running.outlets } .overdrawn CurSlot.reset
    let own := judged (withEntry (stationThree 0) 127 (peer 7 22300 (some ⟨5, 40000⟩) none)) .overdrawn CurSlot.reset
    let theirs := judged (withEntry (stationThree 0) 0 (peer 1 22300 (some ⟨3, 0⟩) none)) .overdrawn CurSlot.reset
    (none2.inUse 2 = true ∧ (none2.slot 2).state = .overdrawn ∧ (none2.curSlot 2).settle = none ∧
      (∀ o, ¬ MayShed none2 2 o) ∧ ∀ e, EntryInView none2 2 e → e.shed = none) ∧
    (own.inUse 2 = true ∧ (own.slot 2).state = .overdrawn ∧ (own.curSlot 2).settle = none ∧ IsOwnShed own 2 5 ∧
      (∀ e c, EntryInView own 2 e → e.shed = some c →
        ¬ shedsFirst c.rank e.station (own.outlet 5).rank.val own.station.id) ∧
      own.rsq.standard.length < 32 ∧ (own.tenant 2).tenantId = some 679 ∧
      32 ≤ (queuedStandard own (fullLane 10)).rsq.standard.length ∧
      IsOwnShed (queuedStandard own (fullLane 10)) 2 5) ∧
    (theirs.inUse 2 = true ∧ (theirs.slot 2).state = .overdrawn ∧ (theirs.curSlot 2).settle = none ∧
      EntryInView theirs 2 (peer 1 22300 (some ⟨3, 0⟩) none) ∧
      ∀ o, IsOwnShed theirs 2 o → shedsFirst 3 1 (theirs.outlet o).rank.val theirs.station.id) := by
  refine ⟨⟨by decide +kernel, by decide +kernel, by decide +kernel, ?_, ?_⟩,
    ⟨by decide +kernel, by decide +kernel, by decide +kernel, ?_, ?_, by decide +kernel, by decide +kernel,
      by decide +kernel, ?_⟩, by decide +kernel, by decide +kernel, by decide +kernel, ?_, ?_⟩
  · unfold MayShed; decide +kernel
  · rintro e ⟨⟨i, h⟩, -⟩
    exact absurd ((running_entry i).symm.trans h) (by simp)
  · unfold IsOwnShed MayShed; decide +kernel
  · intro e c he hc
    cases inView_eq (d := peer 7 22300 (some ⟨5, 40000⟩) none) (by decide +kernel) he
    cases Option.some.inj hc
    unfold shedsFirst; decide +kernel
  · unfold IsOwnShed MayShed; decide +kernel
  · exact ⟨⟨0, by decide +kernel⟩, by decide +kernel, by decide +kernel, by decide +kernel⟩
  · unfold IsOwnShed MayShed shedsFirst; decide +kernel

/-- Station 3 in RECOVERY with outlet 9 shed for its tenant at this draw, and the hold counter here. -/
def ownBest (p hold : Nat) : State :=
  judged ((stationThree 0).setOutlet 9
    { manualOutlet with slot := some 2, reason := .tenant, rank := 3, remembered := some ⟨p, p, 100⟩ })
    .recovery ⟨none, hold, false, false⟩

/-- Station 12's entry with a restore candidate of this draw. -/
def peer12 (draw : Nat) : DynEntry := peer 12 5790 none (some ⟨15, draw⟩)

/-- Station 3 in RECOVERY with that entry in the last place. -/
def peerBest (draw : Nat) : State := judged (withEntry (stationThree 0) 127 (peer12 draw)) .recovery CurSlot.reset

/-- R113's threshold of slot 2. -/
def threshold (s : State) : Nat := (s.slot 2).contract * (s.tenant 2).restorePercent / 100

/-- No best candidate. -/
theorem test_witness_RestoreElectionTakesTheBest_none :
    let s := judged (stationThree 0) .recovery CurSlot.reset
    s.inUse 2 = true ∧ (s.slot 2).state = .recovery ∧ (s.curSlot 2).settle = none ∧ (∀ o, ¬ MayRestore s 2 o) ∧
      ∀ e, EntryInView s 2 e → e.restore = none := by
  refine ⟨by decide +kernel, by decide +kernel, by decide +kernel, ?_, ?_⟩
  · unfold MayRestore; decide +kernel
  · rintro e ⟨⟨i, h⟩, -⟩
    exact absurd ((running_entry i).symm.trans h) (by simp)

/-- A peer's best that just fits, and one that just does not. -/
theorem test_witness_RestoreElectionTakesTheBest_peer :
    let s := peerBest 4000
    let u := peerBest 4001
    (s.inUse 2 = true ∧ (s.slot 2).state = .recovery ∧ (s.curSlot 2).settle = none ∧
      EntryInView s 2 (peer12 4000) ∧ (∀ o, ¬ IsOwnRestore s 2 o) ∧
      (∀ e, EntryInView s 2 e → e = peer12 4000) ∧ (s.slot 2).aggregate + 4000 ≤ threshold s) ∧
    (u.inUse 2 = true ∧ (u.slot 2).state = .recovery ∧ (u.curSlot 2).settle = none ∧
      EntryInView u 2 (peer12 4001) ∧ (∀ o, ¬ IsOwnRestore u 2 o) ∧
      (∀ e, EntryInView u 2 e → e = peer12 4001) ∧ ¬ (u.slot 2).aggregate + 4001 ≤ threshold u) := by
  refine ⟨⟨by decide +kernel, by decide +kernel, by decide +kernel,
      ⟨⟨127, by decide +kernel⟩, by decide +kernel, by decide +kernel, by decide +kernel⟩, ?_,
      fun e he => inView_eq (by decide +kernel) he, by decide +kernel⟩,
    by decide +kernel, by decide +kernel, by decide +kernel,
    ⟨⟨127, by decide +kernel⟩, by decide +kernel, by decide +kernel, by decide +kernel⟩, ?_,
    fun e he => inView_eq (by decide +kernel) he, by decide +kernel⟩
  all_goals unfold IsOwnRestore MayRestore; decide +kernel

/-- The own best with the hold counter below H and at H, the lane with room and full, and one that does not fit. -/
theorem test_witness_RestoreElectionTakesTheBest_own :
    let s := ownBest 4000 4
    let full := queuedStandard s (fullLane 10)
    s.inUse 2 = true ∧ (s.slot 2).state = .recovery ∧ (s.curSlot 2).settle = none ∧
      (∀ e, ¬ EntryInView s 2 e) ∧ (IsOwnRestore s 2 9 ∧ IsOwnRestore (ownBest 4000 3) 2 9 ∧
        IsOwnRestore (ownBest 4001 4) 2 9 ∧ IsOwnRestore full 2 9) ∧
      rememberedValue s 2 9 = 4000 ∧ (s.slot 2).aggregate + 4000 ≤ threshold s ∧
      ¬ (s.slot 2).aggregate + 4001 ≤ threshold s ∧ min ((s.curSlot 2).hold + 1) 5 = (s.tenant 2).restoreHold ∧
      min (((ownBest 4000 3).curSlot 2).hold + 1) 5 < (s.tenant 2).restoreHold ∧
      s.rsq.standard.length < 32 ∧ (s.tenant 2).tenantId = some 679 ∧ 32 ≤ full.rsq.standard.length := by
  refine ⟨by decide +kernel, by decide +kernel, by decide +kernel, ?_, ?_, by decide +kernel⟩
  · rintro e ⟨⟨i, h⟩, -⟩
    exact absurd ((running_entry i).symm.trans h) (by simp)
  · refine ⟨?_, ?_, ?_, ?_⟩ <;> (unfold IsOwnRestore MayRestore; decide +kernel)

/-! ### Witnesses: the Contribution Table -/

/-- A NOTE handed on, from a station covered by a fixed entry or not. -/
theorem test_witness_NotesAndTheirTimers :
    let note : HeardNote := ⟨2, 7, .shed, 1, 40000, 255⟩
    let s : State :=
      { stationThree 0 with
        ctb := { running.ctb with notes := [note] }, cur := { running.cur with notes := [note] } }
    let u := withFixed s 7 ⟨2, 500, some 7⟩
    running.resetHeld = false ∧ running.ctb.notes = [] ∧ running.cur.notes = [] ∧
      s.resetHeld = false ∧ s.ctb.notes = note :: [] ∧ s.cur.notes = note :: [] ∧ s.covered 2 7 = false ∧
      u.ctb.notes = note :: [] ∧ u.covered 2 7 = true := by decide +kernel

/-- Slot 2's settle timer at its last tick and station 7's adjustment at its last tick, a NOTE of that station handed on to
both units. -/
def noteAtExpiry : State :=
  let s := withEntry (stationThree 0) 127 { peer 7 22300 none none with adjustment := some ⟨.shed, 5, 1, false⟩ }
  { s with
    ctb := { s.ctb with notes := [⟨2, 7, .restore, 1, 40000, 255⟩] }
    cur := { s.cur with
      slots := s.cur.slots.set 2 ⟨some 1, 0, false, false⟩, notes := [⟨2, 7, .restore, 1, 40000, 255⟩] } }

theorem test_witness_NotesAndTheirTimers_moment :
    let s := noteAtExpiry
    let e : DynEntry := { peer 7 22300 none none with adjustment := some ⟨.shed, 5, 1, false⟩ }
    s.resetHeld = false ∧ s.ctb.notes = ⟨2, 7, .restore, 1, 40000, 255⟩ :: [] ∧
      s.cur.notes = ⟨2, 7, .restore, 1, 40000, 255⟩ :: [] ∧ s.covered 2 7 = false ∧ s.entry 127 = some e ∧
      e.slot = 2 ∧ e.station = 7 ∧ (∀ j, s.entry j ≠ none → j = 127) ∧ lastTick (s.curSlot 2).settle = true ∧
      (s.curSlot 2).oldDue = false := by decide +kernel

/-- R95, R116: the NOTE first, then the expiry of the same moment: both run on with T = 3 s. After a tick it is no longer that
moment, and an expiry ends them. -/
theorem test_note_outlives_old_expiry :
    let t := after (exec .curNote (after (exec .ctbNote noteAtExpiry)))
    let expired (s : State) := after (exec (.settleTimerExpiry 2) (after (exec (.pendingAdjustmentExpiry 127) s)))
    let left (s : State) := ((s.curSlot 2).settle, (s.entry 127).bind fun e => e.adjustment.map (·.left))
    left (expired t) = (some 750000, some 750000) ∧ left (expired (after (step t))) = (none, none) := by decide +kernel

/-- The table of the shed election's witness holds no two entries of one key. -/
theorem test_witness_NotesAndTheirTimers_keys :
    let s := withEntry (stationThree 0) 127 (peer 7 22300 none none)
    ∀ i j e f, s.entry i = some e → s.entry j = some f → e.slot = f.slot → e.station = f.station → i = j := by
  intro s i j e f hi hj _ _
  have key : ∀ i, s.entry i ≠ none → i = 127 := by decide +kernel
  rw [key i (by simp [hi]), key j (by simp [hj])]

/-- A stopped aging timer, and a running one with an entry of age 2 in the last place. -/
theorem test_witness_AgingStepsEveryEntry :
    let s := withEntry running 127 { peer 63 0 none none with age := 2 }
    let u : State := { s with ctb := { s.ctb with timer := some 1 } }
    running.resetHeld = false ∧ running.ctb.timer = none ∧ u.resetHeld = false ∧ u.ctb.timer ≠ none ∧
      ∀ i e, u.entry i = some e → e.age ≤ 2 := by
  refine ⟨by decide +kernel, by decide +kernel, by decide +kernel, by decide +kernel, fun i e h => ?_⟩
  have key : ∀ i : PlaceIx,
      (withEntry running 127 { peer 63 0 none none with age := 2 }).entry i = none ∨
        (withEntry running 127 { peer 63 0 none none with age := 2 }).entry i =
          some { peer 63 0 none none with age := 2 } := by decide +kernel
  rcases key i with k | k
  · exact absurd (k.symm.trans h) (by simp)
  · cases Option.some.inj (k.symm.trans h)
    decide

/-- A table with every place taken. -/
def fullTable : State :=
  { running with
    ctb := { running.ctb with dyn := Vector.ofFn fun i => some (peer i.val 0 none none) } }

/-- A covered station; a known key; the lowest free place; a full table. -/
theorem test_witness_SummaryEntryIsLearned :
    let covered := withFixed running 7 ⟨2, 500, some 12⟩
    let known := withEntry running 127 (peer 12 0 none none)
    (∃ n f, covered.fixedEntry n = some f ∧ f.slot = 2 ∧ f.covers = some 12) ∧
    ((¬ ∃ n f, known.fixedEntry n = some f ∧ f.slot = 2 ∧ f.covers = some 12) ∧
      known.entry 127 = some (peer 12 0 none none) ∧
      ∀ j, (∃ d, known.entry j = some d ∧ d.slot = 2 ∧ d.station = 12) → j = 127) ∧
    ((∀ i, ¬ ∃ d, running.entry i = some d ∧ d.slot = 2 ∧ d.station = 12) ∧ running.entry 0 = none ∧
      ∀ j, running.entry j = none → (0 : PlaceIx) ≤ j) ∧
    ((∀ i, fullTable.entry i ≠ none) ∧ ∀ i d, fullTable.entry i = some d → d.station ≠ 200) := by
  refine ⟨⟨7, ⟨2, 500, some 12⟩, by decide +kernel, rfl, rfl⟩, ⟨?_, by decide +kernel, ?_⟩,
    ⟨?_, by decide +kernel, by decide +kernel⟩, by decide +kernel, ?_⟩
  · rintro ⟨n, f, h, -⟩
    exact absurd ((running_fixedEntry n).symm.trans h) (by simp)
  · rintro j ⟨d, h, -⟩
    have key : ∀ j, (withEntry running 127 (peer 12 0 none none)).entry j ≠ none → j = 127 := by decide +kernel
    exact key j (by simp [h])
  · rintro i ⟨d, h, -⟩
    exact absurd ((running_entry i).symm.trans h) (by simp)
  · intro i d h
    have key : ∀ i, (fullTable.entry i).map (·.station) ≠ some 200 := by decide +kernel
    exact fun hd => key i (by simp [h, hd])

/-! ### Witnesses: the row link -/

/-- All sixteen slots in use, tenants 1..16. -/
def crowded : State :=
  { stationThree 0 with tenants := Vector.ofFn fun k => { tenant679 with tenantId := some (k.val + 1) } }

/-- A completion of the Tally Unit handed to the RLC. -/
def handed (s : State) (n : Nat) : State := { s with rlc := { s.rlc with tallies := [n] } }

theorem test_witness_SummariesFollowTallies :
    let eight : State := { stationThree 0 with station := { Station.default with exchange := 8 } }
    running.resetHeld = false ∧ running.rlc.tallies = [] ∧
      (handed eight 8).rlc.tallies = 8 :: [] ∧ 8 % eight.station.exchange = 0 ∧ eight.rlc.link = .active ∧
      1 ≤ (allSlots.filter eight.inUse).length ∧ (allSlots.filter eight.inUse).length ≤ 8 ∧
      allSlots.filter running.inUse = [] ∧ ¬ 7 % eight.station.exchange = 0 ∧
      (handed crowded 1).resetHeld = false ∧ (handed crowded 1).rlc.tallies = 1 :: [] ∧
      1 % crowded.station.exchange = 0 ∧ crowded.rlc.link = .active ∧
      8 < (allSlots.filter crowded.inUse).length := by decide +kernel

/-- A SUMMARY of one entry with this segment index, and a NOTE. -/
def aSummary (segment attempts : Nat) : TxFrame :=
  ⟨.summary 0 segment (segment == 1) [⟨679, 41505, 600, .burst, some ⟨3, 12400⟩, none⟩], attempts⟩

def aNote (attempts : Nat) : TxFrame := ⟨.note 679 .shed 1 4000 5, attempts⟩

/-- A transmit queue with these runs. -/
def queues (link : Link) (onLine : Option TxFrame) (noteRun otherRun : List TxFrame) : Rlc :=
  { Rlc.reset with link := link, onLine := onLine, noteRun := noteRun, otherRun := otherRun }

theorem test_witness_TransmitQueueRules :
    let seven := queues .active none (List.replicate 6 (aNote 0)) [aSummary 0 0]
    let eight := queues .active (some (aNote 3)) (List.replicate 6 (aNote 0)) [aSummary 0 0]
    let notes := queues .active none (List.replicate 8 (aNote 0)) []
    let length (r : Rlc) := r.onLine.toList.length + r.noteRun.length + r.otherRun.length
    (seven.otherRun = [] ++ aSummary 0 0 :: [] ∧ (aSummary 0 0).segment = some 0 ∧ length seven < 8) ∧
      ((∀ f ∈ seven.otherRun, ¬ f.segment = some 1) ∧ (∀ f ∈ eight.otherRun, ¬ f.segment = some 1)) ∧
      (¬ length eight < 8 ∧ eight.otherRun = aSummary 0 0 :: []) ∧ (¬ length notes < 8 ∧ notes.otherRun = []) ∧
      (aNote 3).content.cls = 0 ∧ (⟨.announce 16, 0⟩ : TxFrame).content.cls = 2 ∧
      ∃ f ∈ seven.otherRun, f.segment = some 0 := by decide +kernel

/-- R78: the frame at the head at the expiry is the one the try sends, also after a NOTE has joined; the NOTE goes at the next
idle line once the arbitration is lost. -/
theorem test_try_sends_the_head_of_the_expiry :
    let r := ({ queues .down none [] [aSummary 0 1] with retry := some 1 }.allowTry.putNote (aNote 0).content).takeHead
    r.onLine = some (aSummary 0 1) ∧ r.noteRun = [aNote 0] ∧
      ({ r with onLine := none }.putBack (aSummary 0 1)).takeHead.onLine = some (aNote 0) := by decide

theorem test_witness_TransmissionMovesTheQueue :
    let idle (link : Link) (notes others : List TxFrame) : State := { running with rlc := queues link none notes others }
    let off (link : Link) (failures attempts : Nat) : State :=
      { running with rlc := { queues link (some (aNote attempts)) [] [] with failures := failures } }
    let down : State :=
      { running with rlc := { queues .down none [] [aSummary 1 3] with retry := some 1, tryOn := true } }
    let joined : State := { down with rlc := { down.rlc with noteRun := [aNote 0], tryOther := true } }
    let waiting : State := { down with rlc := { down.rlc with tryOn := false } }
    running.resetHeld = false ∧ running.rlc.onLine = none ∧ running.rlc.link = .off ∧ running.rlc.retry = none ∧
      ((idle .listen [] []).rlc.onLine = none ∧ (idle .listen [] []).rlc.link = .listen) ∧
      ((idle .active [aNote 0] []).rlc.link = .active ∧ (idle .active [aNote 0] []).rlc.noteRun = aNote 0 :: []) ∧
      (down.rlc.onLine = none ∧ down.rlc.link = .down ∧ down.rlc.tryOn = true ∧ down.rlc.noteRun = [] ∧
        down.rlc.otherRun = aSummary 1 3 :: [] ∧ down.rlc.retry ≠ none) ∧
      (joined.rlc.onLine = none ∧ joined.rlc.link = .down ∧ joined.rlc.tryOn = true ∧ joined.rlc.tryOther = true ∧
        joined.rlc.noteRun = aNote 0 :: [] ∧ joined.rlc.otherRun = aSummary 1 3 :: []) ∧
      (waiting.resetHeld = false ∧ waiting.rlc.retry ≠ none ∧ waiting.rlc.tryOn = false) ∧
      ((idle .active [aNote 0] []).rlc.tryOther = false ∧ (idle .listen [] []).rlc.otherRun = []) ∧
      ((off .active 15 2).rlc.onLine = some (aNote 2) ∧ (off .active 15 2).rlc.link = .active ∧
        min ((off .active 15 2).rlc.failures + 1) 16 = 16 ∧ min ((off .active 14 3).rlc.failures + 1) 16 < 16) ∧
      (off .down 16 3).rlc.link = .down ∧ (off .listen 0 0).rlc.link ≠ .down := by decide +kernel

/-- A frame read from the line as station 7 built it. -/
def heard (c : FrameContent) : LineFrame := ⟨frameBytes 7 c, true, false⟩

theorem test_witness_FrameReceptionByKind :
    let s := stationThree 0
    let c : FrameContent := .note 679 .restore 15 40000 255
    s.resetHeld = false ∧ s.rlc.link ≠ .off ∧ (heard c).droveBeyondKey = false ∧ s.rlc.onLine = none ∧
      running.rlc.link = .off ∧ ({ heard c with stopBitsGood := false } : LineFrame).stopBitsGood = false ∧
      parseFrame [] = none ∧ (heard c).stopBitsGood = true ∧ parseFrame (heard c).bytes = some (7, c) ∧
      parseFrame (heard (.announce 16)).bytes = some (7, .announce 16) ∧
      parseFrame (heard (aSummary 1 0).content).bytes = some (7, (aSummary 1 0).content) ∧
      7 ≠ s.station.id ∧ s.rlc.link ≠ .silent ∧ ({ s.rlc with link := .silent } : Rlc).link = .silent ∧
      parseFrame (frameBytes 3 c) = some (3, c) ∧ 3 = s.station.id ∧
      ({ s with rlc := queues .active (some (aNote 0)) [] [] } : State).rlc.onLine ≠ none ∧
      ({ heard c with droveBeyondKey := true } : LineFrame).droveBeyondKey ≠ false ∧
      (∀ k, (running.tenant k).tenantId ≠ some 679) ∧ (s.tenant 2).tenantId = some 679 ∧
      ∀ j, (s.tenant j).tenantId = some 679 → j = 2 := by decide +kernel

theorem test_witness_FramesReadBackAsBuilt :
    (ContentInRange (.announce 16) ∧ ContentInRange (.note 4095 .shed 15 40000 255)) ∧
      ContentInRange (.summary 255 1 true (List.replicate 8
        ⟨4095, 16777215, 65535, .recovery, some ⟨14, 40000⟩, some ⟨15, 40000⟩⟩)) ∧
      parseFrame (frameBytes 63 (.announce 16)) = some (63, .announce 16) := by
  refine ⟨by simp [ContentInRange], ?_, by decide +kernel⟩
  simp only [ContentInRange, List.length_replicate, List.mem_replicate]
  refine ⟨by decide, by decide, by decide, by decide, ?_⟩
  rintro e ⟨-, rfl⟩
  simp [CandidateInRange]

/-! ### Witnesses: branch protection -/

/-- Branch 5 in this state with these figures, outlet 47 drawing this current. -/
def branchState (st : BranchState) (x : Branch) (current : Nat) : State :=
  (running.setOutlet 47
    { Outlet.reset with rank := 14, reading := ⟨⟨1000, 1000, current⟩, .ok, false, 0⟩ }).setBranch 5
    { x with state := st }

/-- A branch with a limit of 19,999 mA, at its trip delay. -/
def branchAtDelay : Branch := { Branch.reset with limit := 19999, tripDelay := 1, overCount := 1 }

theorem test_witness_BranchStateFollowsCurrent :
    let at1 (st : BranchState) (current : Nat) := branchState st branchAtDelay current
    let waiting := branchState .tripping { branchAtDelay with tripped := some 47 } 20000
    running.resetHeld = false ∧ running.brm.sweeps = 0 ∧
      0 < ({ running with brm := { running.brm with sweeps := 1 } } : State).brm.sweeps ∧
      ((at1 .normal 20000).branch 5).state = .normal ∧ 19999 < currentOf (at1 .normal 20000) 5 ∧
      ¬ 19999 < currentOf (at1 .normal 19999) 5 ∧ ((at1 .shed 0).branch 5).state = .shed ∧
      branchShed (at1 .shed 0) 5 = 0 ∧
      branchShed ((at1 .shed 0).setOutlet 40 { manualOutlet with reason := .branch }) 5 ≠ 0 ∧
      ((at1 .overload 20000).branch 5).overCount = ((at1 .overload 20000).branch 5).tripDelay ∧
      (waiting.branch 5).state = .tripping ∧ (waiting.branch 5).tripped = some 47 ∧
      (waiting.outlet 47).countdown = 0 ∧ waiting.pendingFor 47 = none := by decide +kernel

theorem test_witness_BranchStateFollowsCurrent_busy :
    ¬ BranchBusy (branchState .overload branchAtDelay 20000) 5 ∧ BranchBusy (queuedUrgent running [urgent4]) 0 := by
  refine ⟨?_, 4, by decide, ⟨urgent4, false⟩, by decide +kernel, rfl⟩
  rintro ⟨o, -, p, h, -⟩
  have key : ∀ o, (branchState .overload branchAtDelay 20000).pendingFor o = none := by decide +kernel
  exact absurd ((key o).symm.trans h) (by simp)

/-- R126's conditions with the pending action computed. -/
theorem mayTrip_iff (s : State) (b : BranchIx) (o : OutletIx) :
    MayTrip s b o ↔ o.val / 8 = b.val ∧ (s.outlet o).commanded = .closed ∧ (s.outlet o).actuator = .enabled ∧
      (s.outlet o).rank.val ≤ 14 ∧ (s.pendingFor o).map (·.action.origin) ≠ some .branch := by
  simp [MayTrip, BranchActionFor]

/-- Branch 5 over its limit by outlet 47 alone, and a CLOSE of that outlet. -/
def tripReady : State :=
  (branchState .overload branchAtDelay 0).setOutlet 47
    { Outlet.reset with reading := ⟨⟨1000, 1000, 20000⟩, .ok, false, 0⟩ }

def close47 : Action := ⟨47, .closeRelay, .manual, none⟩

/-- The same with that CLOSE queued, with it in flight, and with every outlet of rank 15. -/
def tripQueued : State := queuedStandard tripReady [close47]

def tripMoving : State := flying tripReady close47 (some 1) false

def tripProtected : State := { tripReady with outlets := Vector.replicate 48 { Outlet.reset with rank := 15 } }

/-- Eight BRANCH OPENs of branch 0. -/
def fullUrgent : List Action := (outletsOf 0).map fun o => ⟨o, .openRelay, .branch, none⟩

/-- A REARM pending for outlet 47 and an OPEN for outlet 40; the urgent lane full with nothing pending for it, and with its CLOSE queued. -/
theorem test_witness_TripOpensTheCandidate_turned_away :
    let rearm : Action := ⟨47, .rearm, .manual, none⟩
    let opening : Action := ⟨40, .openRelay, .tenant, none⟩
    let opens := queuedStandard (branchState .overload branchAtDelay 0) [opening]
    (IsTripCandidate (queuedStandard tripReady [rearm]) 5 47 ∧
      (queuedStandard tripReady [rearm]).pendingFor 47 = some ⟨rearm, false⟩ ∧ rearm.kind ≠ .closeRelay) ∧
    (IsTripCandidate opens 5 40 ∧ opens.pendingFor 40 = some ⟨opening, false⟩ ∧ opening.kind ≠ .closeRelay) ∧
    (IsTripCandidate (queuedUrgent tripReady fullUrgent) 5 47 ∧
      (queuedUrgent tripReady fullUrgent).pendingFor 47 = none ∧
      8 ≤ (queuedUrgent tripReady fullUrgent).rsq.urgent.length) ∧
    IsTripCandidate (queuedUrgent tripQueued fullUrgent) 5 47 ∧
    (queuedUrgent tripQueued fullUrgent).pendingFor 47 = some ⟨close47, false⟩ ∧
    8 ≤ (queuedUrgent tripQueued fullUrgent).rsq.urgent.length := by
  simp only [IsTripCandidate, mayTrip_iff]
  refine ⟨⟨?_, ?_, ?_⟩, ⟨?_, ?_, ?_⟩, ⟨⟨?_, ?_⟩, ?_, ?_⟩, ⟨?_, ?_⟩, ?_, ?_⟩ <;> decide +kernel

/-- No outlet to open; outlet 47 with nothing pending, with a CLOSE queued and with one in flight. -/
theorem test_witness_TripOpensTheCandidate :
    (∀ o, ¬ MayTrip tripProtected 5 o) ∧
    (IsTripCandidate tripReady 5 47 ∧ tripReady.pendingFor 47 = none ∧ tripReady.rsq.urgent.length < 8) ∧
    (IsTripCandidate tripQueued 5 47 ∧ tripQueued.pendingFor 47 = some ⟨close47, false⟩ ∧
      tripQueued.rsq.urgent.length < 8 ∧ tripQueued.rsq.urgent.all (fun c => c.outlet != 47) = true) ∧
    IsTripCandidate tripMoving 5 47 ∧ tripMoving.pendingFor 47 = some ⟨close47, true⟩ := by
  simp only [IsTripCandidate, mayTrip_iff]
  refine ⟨?_, ⟨?_, ?_⟩, ⟨?_, ?_⟩, ?_, ?_⟩ <;> decide +kernel

/-- Branch 5 in SHED with outlet 47 opened for it at this remembered current, and its hold count here. -/
def branchShedAt (current hold : Nat) : State :=
  (running.setOutlet 47
    { manualOutlet with reason := .branch, remembered := some ⟨1000, 1000, current⟩ }).setBranch 5
    { Branch.reset with state := .shed, holdCount := hold }

theorem branchShedAt_idle (current hold : Nat) (b : BranchIx) : ¬ BranchBusy (branchShedAt current hold) b := by
  rintro ⟨o, -, p, h, -⟩
  have key : ∀ o, running.pendingFor o = none := by decide +kernel
  exact absurd ((key o).symm.trans h) (by simp)

/-- The test just passes at 80 % of 16,000 mA, with the hold count below and at the restore hold and the lane full; it just
fails; and there is no candidate. -/
theorem test_witness_BranchRestoreNeedsRoom :
    let s := branchShedAt 12800 49
    let full := queuedStandard s (fullLane 5)
    (∀ o, ¬ MayBranchRestore running 5 o) ∧
    (IsBranchRestore s 5 47 ∧ BranchTestPasses s 5 47 ∧ min ((s.branch 5).holdCount + 1) 50 = (s.branch 5).restoreHold ∧
      s.rsq.standard.length < 32) ∧
    (IsBranchRestore (branchShedAt 12800 48) 5 47 ∧ BranchTestPasses (branchShedAt 12800 48) 5 47 ∧
      min (((branchShedAt 12800 48).branch 5).holdCount + 1) 50 < (s.branch 5).restoreHold) ∧
    (IsBranchRestore full 5 47 ∧ 32 ≤ full.rsq.standard.length) ∧
    IsBranchRestore (branchShedAt 12801 0) 5 47 ∧ ¬ BranchTestPasses (branchShedAt 12801 0) 5 47 := by
  have room : ∀ c h, HasRoom (branchShedAt c h) 47 := fun c h k hk => by
    have : ((branchShedAt c h).outlet 47).slot = none := rfl
    simp [this] at hk
  refine ⟨?_, ⟨?_, ⟨branchShedAt_idle _ _ _, by decide +kernel, room _ _⟩, by decide +kernel, by decide +kernel⟩,
    ⟨?_, ⟨branchShedAt_idle _ _ _, by decide +kernel, room _ _⟩, by decide +kernel⟩, ⟨?_, by decide +kernel⟩, ?_,
    fun h => absurd h.2.1 (by decide +kernel)⟩
  all_goals (try unfold IsBranchRestore); unfold MayBranchRestore; decide +kernel

/-! ### Witnesses: relay actuation -/

/-- A stagger timer running. -/
def staggered (s : State) : State := { s with rsq := { s.rsq with stagger := some 2500 } }

theorem test_witness_ChoiceTakesTheHead :
    let s := queuedStandard (staggered running) [standard4 .closeRelay]
    let u := queuedUrgent s [urgent4]
    let f := (queuedStandard (staggered running) [standard4 .closeRelay]).setOutlet 4 faultedOutlet
    let r := queuedStandard running [standard4 .rearm]
    running.resetHeld = false ∧ running.rsq.stagger = none ∧ s.resetHeld = false ∧ s.rsq.stagger ≠ none ∧
      (flying s (standard4 .openRelay) none false).rsq.inFlight ≠ none ∧
      (running.rsq.urgent = [] ∧ running.rsq.standard = []) ∧
      (s.rsq.inFlight = none ∧ s.rsq.urgent = [] ∧ s.rsq.standard = standard4 .closeRelay :: [] ∧
        (s.outlet 4).actuator = .enabled) ∧
      (u.rsq.inFlight = none ∧ u.rsq.urgent = urgent4 :: [] ∧ u.rsq.standard = [standard4 .closeRelay] ∧
        urgent4.kind ≠ .rearm ∧ (u.outlet 4).actuator = .enabled) ∧
      (f.rsq.inFlight = none ∧ f.rsq.urgent = [] ∧ f.rsq.standard = standard4 .closeRelay :: [] ∧
        (f.outlet 4).actuator = .faulted) ∧
      (r.rsq.inFlight = none ∧ r.rsq.urgent = [] ∧ r.rsq.standard = standard4 .rearm :: []) := by decide +kernel

/-- An OPEN of outlet 4 with its pulse driven and ended, its target sensed and not; and outlet 47 with a pulse left running,
in CONFIG and in RUN. -/
theorem test_witness_OperationsAreRetired :
    let a := standard4 .openRelay
    let opened : Contacts := 0xFFFFFFFFFFEF
    let left (s : State) := s.setOutlet 47 { Outlet.reset with residualPulse := some ⟨.opened, 1⟩ }
    running.resetHeld = false ∧ running.rsq.inFlight = none ∧
      (∀ o : OutletIx, opened.getLsbD o.val =
        if o = a.outlet then decide (targetOf a.kind = .closed) else (BitVec.allOnes 48).getLsbD o.val) ∧
      (flying running a none false).rsq.inFlight = some ⟨a, none, 1000, false⟩ ∧
      (flying running a (some 1) false).rsq.inFlight = some ⟨a, some 1, 1000, false⟩ ∧
      (flying running a (some 1) true).rsq.inFlight = some ⟨a, some 1, 1000, true⟩ ∧
      ({ running with contacts := opened } : State).sensed a.outlet = targetOf a.kind ∧
      running.sensed a.outlet ≠ targetOf a.kind ∧
      (running.outlet 47).residualPulse = none ∧
      ((left running).outlet 47).residualPulse ≠ none ∧ (left running).mpt.phase ≠ .config ∧
      ((left State.reset).outlet 47).residualPulse ≠ none ∧ (left State.reset).mpt.phase = .config := by
  decide +kernel

/-- R138: the feedback shows the target when the 100 ms have passed: DONE, kind 10 alone. -/
theorem test_target_shown_at_window_end :
    (after (exec (.feedbackWindowTimeout 0) (flying running (standard4 .openRelay) none false))).nq.queue =
      [⟨0, .actionDone 4 .openRelay .manual .done⟩] := by decide +kernel

/-- R147: the pulse toward OPEN that a RESTART leaves running still drives the coil toward OPEN, and not toward CLOSED. -/
theorem test_restart_keeps_pulse_direction :
    let t := after (exec (.restart ⟨[], []⟩) (flying running (standard4 .openRelay) (some 7) false))
    (t.outlet 4).residualPulse = some ⟨.opened, 7⟩ ∧ t.coilDriven 4 .opened = true ∧ t.coilDriven 4 .closed = false := by
  decide +kernel

/-- The pin released and held; a frame on the line and none; an outlet without a left-over pulse; an action in flight. -/
theorem test_witness_OutputsFollowTheState :
    let s := flying running (standard4 .closeRelay) (some 5000) false
    running.resetHeld = false ∧ ({ running with resetHeld := true } : State).resetHeld = true ∧
      running.rlc.onLine = none ∧
      ({ running with rlc := queues .active (some (aNote 0)) [] [] } : State).rlc.onLine = some (aNote 0) ∧
      (running.outlet (standard4 .openRelay).outlet).residualPulse = none ∧ s.resetHeld = false ∧
      (⟨[], [0]⟩ : Record).params = [] ∧ s.rsq.inFlight = some ⟨standard4 .closeRelay, some 5000, 1000, false⟩ ∧
      (s.outlet 4).residualPulse = none := by decide +kernel

/-- Outlet 47 away from its commanded state; outlet 4 in flight; outlet 5 as commanded. -/
theorem test_witness_MismatchCheckFaultsStrays :
    let s : State := { flying running (standard4 .openRelay) none false with
      rsq := { (flying running (standard4 .openRelay) none false).rsq with sweeps := 1 } }
    running.resetHeld = false ∧ running.rsq.sweeps = 0 ∧ s.resetHeld = false ∧ 0 < s.rsq.sweeps ∧
      (∃ f, s.rsq.inFlight = some f ∧ f.action.outlet = 4) ∧ FoundAway s 47 .opened ∧ ¬ FoundAway s 5 .closed := by
  refine ⟨by decide +kernel, by decide +kernel, by decide +kernel, by decide +kernel, ⟨_, rfl, rfl⟩,
    ⟨by decide +kernel, .inl (by decide +kernel)⟩, ?_⟩
  rintro ⟨-, h | ⟨a, h, -⟩⟩
  · exact absurd h (by decide +kernel)
  · have key : ({ flying running (standard4 .openRelay) none false with
        rsq := { (flying running (standard4 .openRelay) none false).rsq with sweeps := 1 } } : State).pendingFor 5 =
          none := by decide +kernel
    exact absurd (key.symm.trans h) (by simp)

/-! ### Witnesses: the invariants -/

/-- A station at work: an action in flight and one in each lane, a slot in BURST with credit, a peer's entry, a branch that
waits on outlet 4, a SUMMARY queued, notices held, and a tally about to be taken. -/
def atWork : State :=
  { busyLanes with
    station := { Station.default with id := 3 }
    tenants := running.tenants.set 2 tenant679
    outlets := running.outlets.set 4
      { Outlet.reset with commanded := .opened, reason := .branch, remembered := some ⟨0, 0, 0⟩ }
    tly := { running.tly with
      timer := some 1
      slots := running.tly.slots.set 2
        { SlotRuntime.reset with state := .burst, contract := 60000, allowance := 1200000, credit := 1200000 } }
    ctb := { running.ctb with timer := some 1, dyn := running.ctb.dyn.set 127 (some (peer 7 22300 none none)) }
    rlc := queues .active none [aNote 3] [aSummary 0 0, aSummary 1 3]
    brm := { running.brm with
      branches := running.brm.branches.set 0 { Branch.reset with state := .tripping, tripped := some 4 } }
    nq := ⟨List.replicate 63 ⟨1, .linkUp⟩, true⟩
    pending := [.tallyTimerExpiry] }

/-- The step that the invariants' statements ask for. -/
theorem atWork_steps : ∃ t, step atWork = .next t := ⟨_, rfl⟩

theorem atWork_figures :
    NoticesBounded atWork ∧ ReadingsInRange atWork ∧ CountersInRange atWork ∧ CreditsBounded atWork := by
  unfold NoticesBounded ReadingsInRange ReadingInRange CountersInRange CounterInRange CreditsBounded
  decide +kernel

theorem atWork_config : ConfigInRange atWork := by
  unfold ConfigInRange StationInRange TenantInRange BranchConfigInRange
  decide +kernel

theorem atWork_table : TableInRange atWork := by
  unfold TableInRange
  decide +kernel

theorem atWork_runtime : RuntimeInRange atWork := by
  unfold RuntimeInRange SlotInRange
  decide +kernel

theorem test_witness_StepKeepsFiguresInRange :
    (∃ t, step atWork = .next t) ∧
      (NoticesBounded atWork ∧ ReadingsInRange atWork ∧ CountersInRange atWork ∧ CreditsBounded atWork) ∧
      ConfigInRange atWork ∧ TableInRange atWork ∧ RuntimeInRange atWork :=
  ⟨atWork_steps, atWork_figures, atWork_config, atWork_table, atWork_runtime⟩

theorem test_witness_StepKeepsOneActionPerOutletAndBranch :
    (∃ t, step atWork = .next t) ∧ BranchLaw atWork := by
  refine ⟨atWork_steps, ⟨by decide +kernel, by decide +kernel, by decide +kernel, by decide +kernel, by decide +kernel,
    ?_⟩, by decide +kernel⟩
  intro f h
  cases (Option.mem_some.mp h)
  decide +kernel

theorem test_witness_StepKeepsStandingsAndBranchRecords :
    (∃ t, step atWork = .next t) ∧ StandingsHold atWork ∧ BranchesHold atWork := by
  refine ⟨atWork_steps, by unfold StandingsHold OutletStands; decide +kernel, fun b => ⟨?_, ?_, ?_⟩⟩
  · revert b; decide +kernel
  · revert b; decide +kernel
  · have key : ∀ b : BranchIx, (atWork.branch b).tripped.all (fun o => branchOf o == b) = true := by decide +kernel
    intro o ho
    have h := key b
    rw [Option.mem_def.mp ho] at h
    simpa using h

theorem test_witness_StepKeepsTransmitQueue : (∃ t, step atWork = .next t) ∧ LinkHolds atWork := by
  refine ⟨atWork_steps, ?_⟩
  unfold LinkHolds
  decide +kernel

theorem test_witness_StepKeepsContributionTable : (∃ t, step atWork = .next t) ∧ TableHolds atWork := by
  have key : ∀ i : PlaceIx, atWork.entry i = none ∨ i = 127 ∧ atWork.entry i = some (peer 7 22300 none none) := by
    decide +kernel
  have used : ∀ i e, e ∈ atWork.entry i → i = 127 ∧ e = peer 7 22300 none none := by
    intro i e h
    rcases key i with k | ⟨k, hk⟩
    · exact absurd (k.symm.trans h) (by simp)
    · exact ⟨k, (Option.some.inj (hk.symm.trans h)).symm⟩
  refine ⟨atWork_steps, fun h => absurd h (by decide +kernel), fun i j e hi f hj _ _ => ?_, fun i e hi => ?_⟩
  · rw [(used i e hi).1, (used j f hj).1]
  · rw [(used i e hi).2]
    decide +kernel

theorem test_witness_StepKeepsPhaseGates :
    (∃ t, step atWork = .next t) ∧ PhaseGates atWork ∧
      ∃ t, step { configured with pending := [.resetPinAssert] } = .next t ∧
        PhaseGates { configured with pending := [.resetPinAssert] } := by
  refine ⟨atWork_steps, ?_, _, rfl, ?_⟩ <;> (unfold PhaseGates; decide +kernel)

end Sys2Proof.Tests
end

section
/-! What every step keeps, said once. `Keeps s t` gathers the invariants of figures, standings and branch records;
`Works s t` adds what holds of the work within a phase. Each kind of change of the state has one rule below, and the work of
every command is a chain of these rules. -/

namespace Sys2Proof.Machine

open Sys2Proof.Safety

/-! ### The invariants, record by record -/

/-- Three figures within the clamps of R29. -/
def Draw.InRange (d : Draw) : Prop := d.p ≤ 40000 ∧ d.s ≤ 40000 ∧ d.i ≤ 20000

/-- An outlet's configured figures (R5). -/
def Outlet.ConfigInRange (x : Outlet) : Prop := (∀ g ∈ x.gains.toList, g ≤ 65535) ∧ -512 ≤ x.offset ∧ x.offset ≤ 511

/-- An outlet's countdown and remembered draw (R9, R33). -/
def Outlet.RuntimeInRange (x : Outlet) : Prop := x.countdown ≤ 15 ∧ ∀ d ∈ x.remembered, d.InRange

/-- The credit and uncovered bounds of one slot (R52, R58). -/
def SlotRuntime.CreditBounded (r : SlotRuntime) : Prop := r.credit ≤ r.allowance ∧ r.uncovered ≤ r.aggregate

/-- A slot's hold counter and settle timer (R100). -/
def CurSlot.InRange (c : CurSlot) : Prop := c.hold ≤ 60 ∧ ∀ n ∈ c.settle, 1 ≤ n ∧ n ≤ 3750000

/-- A slot's two counters (R148). -/
def SlotCounters.InRange (c : SlotCounters) : Prop := CounterInRange c.energy ∧ CounterInRange c.overage

/-- A dynamic entry's figures (R82). -/
def DynEntry.InRange (e : DynEntry) : Prop :=
  (1 ≤ e.station ∧ e.station ≤ 63) ∧ e.contribution < 16777216 ∧ e.code ≤ 65535 ∧ e.stamp ≤ 255 ∧
    (∀ c ∈ e.shed, c.rank ≤ 14 ∧ c.draw ≤ 40000) ∧ (∀ c ∈ e.restore, c.rank ≤ 15 ∧ c.draw ≤ 40000) ∧
    ∀ a ∈ e.adjustment, a.draw ≤ 40000

/-- A fixed entry's figures (R83). -/
def FixedEntry.InRange (e : FixedEntry) : Prop := e.contribution < 16777216 ∧ ∀ c ∈ e.covers, 1 ≤ c ∧ c ≤ 63

/-- A branch's current and counts (R123). -/
def Branch.RuntimeInRange (x : Branch) : Prop := x.current ≤ 160000 ∧ x.overCount ≤ 15 ∧ x.holdCount ≤ 250

/-- A branch record stands as R123 and R125 have it. -/
def Branch.Stands (b : BranchIx) (x : Branch) : Prop :=
  (x.state ≠ .shed → x.holdCount = 0) ∧ (x.tripped.isSome = true ↔ x.state = .tripping) ∧
    ∀ o ∈ x.tripped, branchOf o = b

/-- ConfigInRange by its parts. -/
structure ConfigParts (s : State) : Prop where
  station : StationInRange s.station
  tenants : ∀ k : SlotIx, TenantInRange (s.tenant k)
  outlets : ∀ o : OutletIx, (s.outlet o).ConfigInRange
  branches : ∀ b : BranchIx, BranchConfigInRange (s.branch b)
  fixed : ∀ n : FixedIx, ∀ e ∈ s.fixedEntry n, e.InRange

/-- TableInRange by its parts. -/
structure TableParts (s : State) : Prop where
  entries : ∀ i : PlaceIx, ∀ e ∈ s.entry i, e.InRange
  notes : ∀ n ∈ s.ctb.notes, n.draw ≤ 40000

/-- RuntimeInRange by its parts. -/
structure RuntimeParts (s : State) : Prop where
  outlets : ∀ o : OutletIx, (s.outlet o).RuntimeInRange
  warmup : s.osu.warmup ≤ 8
  count : s.tly.count ≤ 4294967295
  slots : ∀ k : SlotIx, SlotInRange (s.slot k)
  items : ∀ k : SlotIx, (s.curSlot k).InRange
  shares : ∀ k : SlotIx, (s.counters k).lastAttributed ≤ 1932240
  branches : ∀ b : BranchIx, (s.branch b).RuntimeInRange

theorem configInRange_iff (s : State) : ConfigInRange s ↔ ConfigParts s :=
  ⟨fun ⟨a, b, c, d, e⟩ => ⟨a, b, c, d, e⟩, fun ⟨a, b, c, d, e⟩ => ⟨a, b, c, d, e⟩⟩

theorem tableInRange_iff (s : State) : TableInRange s ↔ TableParts s :=
  ⟨fun ⟨a, b⟩ => ⟨a, b⟩, fun ⟨a, b⟩ => ⟨a, b⟩⟩

theorem runtimeInRange_iff (s : State) : RuntimeInRange s ↔ RuntimeParts s :=
  ⟨fun ⟨a, b, c, d, e⟩ =>
    ⟨a, b, c, fun k => (d k).1, fun k => ⟨(d k).2.1, (d k).2.2.1⟩, fun k => (d k).2.2.2, e⟩,
    fun ⟨a, b, c, d, e, f, g⟩ => ⟨a, b, c, fun k => ⟨d k, (e k).1, (e k).2, f k⟩, g⟩⟩

/-- The figures that the bounds of RuntimeInRange rest on, with those bounds. -/
structure FiguresHold (s : State) : Prop where
  config : ConfigParts s
  table : TableParts s
  readings : ∀ o : OutletIx, ReadingInRange (s.outlet o).reading
  credits : ∀ k : SlotIx, (s.slot k).CreditBounded
  runtime : RuntimeParts s

/-- No action held for curtailment or branch protection opens an outlet of rank 15 (R7). -/
def ProtectedUnasked (s : State) : Prop :=
  ∀ a ∈ heldActions s, a.kind = .openRelay → a.origin ≠ .manual → (s.outlet a.outlet).rank.val ≤ 14

/-- The invariants of figures, standings and branch records hold of the second state if they hold of the first. -/
structure Keeps (s t : State) : Prop where
  notices : NoticesBounded s → NoticesBounded t
  readings : ReadingsInRange s → ReadingsInRange t
  outletCounters : (∀ o : OutletIx, CounterInRange (s.outlet o).energy) →
    ∀ o : OutletIx, CounterInRange (t.outlet o).energy
  slotCounters : (∀ k : SlotIx, (s.counters k).InRange) → ∀ k : SlotIx, (t.counters k).InRange
  credits : (∀ k : SlotIx, (s.slot k).CreditBounded) → ∀ k : SlotIx, (t.slot k).CreditBounded
  config : ConfigInRange s → ConfigInRange t
  table : TableInRange s → TableInRange t
  runtime : FiguresHold s → RuntimeInRange t
  standings : StandingsHold s → StandingsHold t
  branches : (∀ b : BranchIx, (s.branch b).Stands b) → ∀ b : BranchIx, (t.branch b).Stands b

/-- Work within a phase: it leaves the phase, keeps the invariants, and asks for no rank-15 outlet. -/
structure Works (s t : State) : Prop extends Keeps s t where
  phase : t.mpt.phase = s.mpt.phase
  unasked : ProtectedUnasked s → ProtectedUnasked t

variable {s t u v : State}

theorem Keeps.figures (h : Keeps s t) (f : FiguresHold s) : FiguresHold t :=
  ⟨(configInRange_iff t).mp (h.config ((configInRange_iff s).mpr f.config)),
    (tableInRange_iff t).mp (h.table ((tableInRange_iff s).mpr f.table)), h.readings f.readings, h.credits f.credits,
    (runtimeInRange_iff t).mp (h.runtime f)⟩

theorem Keeps.trans (h : Keeps s u) (k : Keeps u t) : Keeps s t where
  notices := k.notices ∘ h.notices
  readings := k.readings ∘ h.readings
  outletCounters := k.outletCounters ∘ h.outletCounters
  slotCounters := k.slotCounters ∘ h.slotCounters
  credits := k.credits ∘ h.credits
  config := k.config ∘ h.config
  table := k.table ∘ h.table
  runtime := k.runtime ∘ h.figures
  standings := k.standings ∘ h.standings
  branches := k.branches ∘ h.branches

theorem Works.trans (h : Works s u) (k : Works u t) : Works s t where
  toKeeps := h.toKeeps.trans k.toKeeps
  phase := k.phase.trans h.phase
  unasked := k.unasked ∘ h.unasked

/-! ### What the invariants do not read -/

/-- A state with everything that the invariants do not read at its reset value. -/
def State.bare (s : State) : State :=
  { State.reset with
    station := s.station
    tenants := s.tenants
    outlets := s.outlets
    osu := { Osu.reset with warmup := s.osu.warmup }
    tly := { s.tly with timer := none }
    ctb := { s.ctb with timer := none, full := false }
    cur := { Cur.reset with slots := s.cur.slots }
    brm := { s.brm with sweeps := 0 }
    rsq := { Rsq.reset with standard := heldActions s }
    ect := { s.ect with tallies := [] }
    mpt := { Mpt.reset with phase := s.mpt.phase }
    nq := { s.nq with lost := false } }

theorem bare_transfer (P : State → Prop) (e : u.bare = t.bare) (p : P u.bare) : P t.bare := e ▸ p

/-- A change of nothing that the invariants read. -/
theorem Works.of_bare (e : s.bare = t.bare) : Works s t where
  notices := bare_transfer NoticesBounded e
  readings := bare_transfer ReadingsInRange e
  outletCounters := bare_transfer (fun s => ∀ o : OutletIx, CounterInRange (s.outlet o).energy) e
  slotCounters := bare_transfer (fun s => ∀ k : SlotIx, (s.counters k).InRange) e
  credits := bare_transfer (fun s => ∀ k : SlotIx, (s.slot k).CreditBounded) e
  config := bare_transfer ConfigInRange e
  table := bare_transfer TableInRange e
  runtime h := bare_transfer RuntimeInRange e ((runtimeInRange_iff s).mpr h.runtime)
  standings := bare_transfer StandingsHold e
  branches := bare_transfer (fun s => ∀ b : BranchIx, (s.branch b).Stands b) e
  phase := (congrArg (fun s => s.mpt.phase) e).symm
  unasked := bare_transfer ProtectedUnasked e

theorem Works.refl (s : State) : Works s s := .of_bare rfl

/-- A further change of nothing that the invariants read. -/
theorem Works.same (h : Works s u) (e : u.bare = t.bare) : Works s t := h.trans (.of_bare e)

/-! ### One rule per kind of change -/

theorem forall_outlet_setOutlet {Q : OutletIx → Outlet → Prop} {o : OutletIx} {x : Outlet}
    (h : ∀ o', Q o' (s.outlet o')) (hx : Q o x) (o' : OutletIx) : Q o' ((s.setOutlet o x).outlet o') := by
  rw [State.outlet_setOutlet]
  split
  · next e => exact e ▸ hx
  · exact h o'

theorem forall_slot_setSlot {Q : SlotRuntime → Prop} {k : SlotIx} {x : SlotRuntime}
    (h : ∀ k', Q (s.slot k')) (hx : Q x) (k' : SlotIx) : Q ((s.setSlot k x).slot k') := by
  rw [State.slot_setSlot]
  split
  · exact hx
  · exact h k'

theorem forall_curSlot_setCurSlot {Q : CurSlot → Prop} {k : SlotIx} {x : CurSlot}
    (h : ∀ k', Q (s.curSlot k')) (hx : Q x) (k' : SlotIx) : Q ((s.setCurSlot k x).curSlot k') := by
  rw [State.curSlot_setCurSlot]
  split
  · exact hx
  · exact h k'

theorem forall_counters_setCounters {Q : SlotCounters → Prop} {k : SlotIx} {x : SlotCounters}
    (h : ∀ k', Q (s.counters k')) (hx : Q x) (k' : SlotIx) : Q ((s.setCounters k x).counters k') := by
  rw [State.counters_setCounters]
  split
  · exact hx
  · exact h k'

theorem forall_branch_setBranch {Q : BranchIx → Branch → Prop} {b : BranchIx} {x : Branch}
    (h : ∀ b', Q b' (s.branch b')) (hx : Q b x) (b' : BranchIx) : Q b' ((s.setBranch b x).branch b') := by
  rw [State.branch_setBranch]
  split
  · next e => exact e ▸ hx
  · exact h b'

theorem forall_entry_setEntry {Q : DynEntry → Prop} {i : PlaceIx} {x : Option DynEntry}
    (h : ∀ i', ∀ e ∈ s.entry i', Q e) (hx : ∀ e ∈ x, Q e) (i' : PlaceIx) : ∀ e ∈ (s.setEntry i x).entry i', Q e := by
  rw [State.entry_setEntry]
  split
  · exact hx
  · exact h i'

/-- The queue stays within its bound whatever is raised (R172). -/
theorem Nq.take_length_le (q : Nq) (enabled : Bool) (n : Notice) (h : q.queue.length ≤ 63) :
    (q.take enabled n).queue.length ≤ 63 := by
  rcases q.take_cases enabled n with ⟨-, e⟩ | ⟨-, hl, e⟩ | ⟨-, -, e⟩
  · rwa [e]
  · simp only [e, List.length_append, List.length_singleton]
    omega
  · rwa [e]

theorem Works.notices_set (h : Works s u) {q : Nq} (hq : u.nq.queue.length ≤ 63 → q.queue.length ≤ 63) :
    Works s { u with nq := q } :=
  { h with notices := hq ∘ h.notices }

theorem Works.raiseAt (h : Works s u) (n : Nat) (b : NoticeBody) : Works s (u.raiseAt n b) :=
  h.notices_set (u.nq.take_length_le _ _)

theorem Works.raise (h : Works s u) (b : NoticeBody) : Works s (u.raise b) := h.raiseAt _ b

theorem Works.raiseDone (h : Works s u) (n : Nat) (a : Action) (c : Completion) : Works s (State.raiseDone n u a c) :=
  h.raiseAt n _

/-- What a new record of an outlet must meet for the invariants, the work having begun at the first state. -/
structure OutletKeeps (s u : State) (o : OutletIx) (y : Outlet) : Prop where
  reading : ReadingInRange (u.outlet o).reading → ReadingInRange y.reading
  energy : CounterInRange (u.outlet o).energy → CounterInRange y.energy
  config : (u.outlet o).ConfigInRange → y.ConfigInRange
  runtime : FiguresHold s → FiguresHold u → y.RuntimeInRange
  stands : OutletStands (u.outlet o) → OutletStands y

theorem Keeps.setOutlet (h : Keeps s u) {o : OutletIx} {y : Outlet} (k : OutletKeeps s u o y) :
    Keeps s (u.setOutlet o y) :=
  { h with
    readings := fun r => forall_outlet_setOutlet (Q := fun _ x => ReadingInRange x.reading) (h.readings r)
      (k.reading (h.readings r o))
    outletCounters := fun r => forall_outlet_setOutlet (Q := fun _ x => CounterInRange x.energy) (h.outletCounters r)
      (k.energy (h.outletCounters r o))
    config := fun r =>
      let c := (configInRange_iff u).mp (h.config r)
      (configInRange_iff _).mpr { c with
        outlets := forall_outlet_setOutlet (Q := fun _ x => x.ConfigInRange) c.outlets (k.config (c.outlets o)) }
    runtime := fun f =>
      let r := (runtimeInRange_iff u).mp (h.runtime f)
      (runtimeInRange_iff _).mpr { r with
        outlets := forall_outlet_setOutlet (Q := fun _ x => x.RuntimeInRange) r.outlets (k.runtime f (h.figures f)) }
    standings := fun r => forall_outlet_setOutlet (Q := fun _ x => OutletStands x) (h.standings r)
      (k.stands (h.standings r o)) }

/-- What a new record of an outlet must meet within a phase: its rank, too, is kept. -/
structure OutletKept (s u : State) (o : OutletIx) (y : Outlet) : Prop extends OutletKeeps s u o y where
  rank : y.rank = (u.outlet o).rank

theorem Works.setOutlet (h : Works s u) {o : OutletIx} {y : Outlet} (k : OutletKept s u o y) :
    Works s (u.setOutlet o y) :=
  { h.toKeeps.setOutlet k.toOutletKeeps with
    phase := h.phase
    unasked := fun r a ha hk hm => by
      rw [State.outlet_setOutlet]
      split
      · next e => rw [k.rank, e]; exact h.unasked r a ha hk hm
      · exact h.unasked r a ha hk hm }

/-- What a new record of a branch must meet. -/
structure BranchKept (s u : State) (b : BranchIx) (y : Branch) : Prop where
  config : BranchConfigInRange (u.branch b) → BranchConfigInRange y
  runtime : FiguresHold s → FiguresHold u → y.RuntimeInRange
  stands : (u.branch b).Stands b → y.Stands b

theorem Works.setBranch (h : Works s u) {b : BranchIx} {y : Branch} (k : BranchKept s u b y) :
    Works s (u.setBranch b y) :=
  { h with
    config := fun r =>
      let c := (configInRange_iff u).mp (h.config r)
      (configInRange_iff _).mpr { c with
        branches := forall_branch_setBranch (Q := fun _ x => BranchConfigInRange x) c.branches
          (k.config (c.branches b)) }
    runtime := fun f =>
      let r := (runtimeInRange_iff u).mp (h.runtime f)
      (runtimeInRange_iff _).mpr { r with
        branches := forall_branch_setBranch (Q := fun _ x => x.RuntimeInRange) r.branches (k.runtime f (h.figures f)) }
    branches := fun r => forall_branch_setBranch (Q := Branch.Stands) (h.branches r) (k.stands (h.branches r b)) }

theorem Works.setSlot (h : Works s u) {k : SlotIx} {y : SlotRuntime}
    (credit : (u.slot k).CreditBounded → y.CreditBounded) (range : FiguresHold s → FiguresHold u → SlotInRange y) :
    Works s (u.setSlot k y) :=
  { h with
    credits := fun r => forall_slot_setSlot (h.credits r) (credit (h.credits r k))
    runtime := fun f =>
      let r := (runtimeInRange_iff u).mp (h.runtime f)
      (runtimeInRange_iff _).mpr { r with slots := forall_slot_setSlot r.slots (range f (h.figures f)) } }

theorem Works.setCurSlot (h : Works s u) {k : SlotIx} {y : CurSlot}
    (range : FiguresHold s → FiguresHold u → y.InRange) : Works s (u.setCurSlot k y) :=
  { h with
    runtime := fun f =>
      let r := (runtimeInRange_iff u).mp (h.runtime f)
      (runtimeInRange_iff _).mpr { r with items := forall_curSlot_setCurSlot r.items (range f (h.figures f)) } }

theorem Works.setCounters (h : Works s u) {k : SlotIx} {y : SlotCounters}
    (range : (u.counters k).InRange → y.InRange)
    (share : FiguresHold s → FiguresHold u → y.lastAttributed ≤ 1932240) : Works s (u.setCounters k y) :=
  { h with
    slotCounters := fun r => forall_counters_setCounters (h.slotCounters r) (range (h.slotCounters r k))
    runtime := fun f =>
      let r := (runtimeInRange_iff u).mp (h.runtime f)
      (runtimeInRange_iff _).mpr { r with
        shares := forall_counters_setCounters (Q := fun c => c.lastAttributed ≤ 1932240) r.shares
          (share f (h.figures f)) } }

theorem Works.setEntry (h : Works s u) {i : PlaceIx} {y : Option DynEntry}
    (range : TableParts s → TableParts u → ∀ e ∈ y, e.InRange) : Works s (u.setEntry i y) :=
  { h with
    table := fun r =>
      let t := (tableInRange_iff u).mp (h.table r)
      (tableInRange_iff _).mpr { t with
        entries := forall_entry_setEntry t.entries (range ((tableInRange_iff s).mp r) t) } }

/-- The NOTEs that wait for the table. -/
theorem Works.setNotes (h : Works s u) {l : List HeardNote} (range : TableParts u → ∀ n ∈ l, n.draw ≤ 40000) :
    Works s { u with ctb := { u.ctb with notes := l } } :=
  { h with
    table := fun r =>
      let t := (tableInRange_iff u).mp (h.table r)
      (tableInRange_iff _).mpr { t with notes := range t } }

/-- The actions a sequencer holds: in flight, then the urgent lane, then the standard lane. -/
def Rsq.held (q : Rsq) : List Action := (q.inFlight.map (·.action)).toList ++ q.urgent ++ q.standard

theorem heldActions_eq (s : State) : heldActions s = s.rsq.held := rfl

/-- The lanes and the place in flight: what is held now was held before, or opens no protected outlet. -/
theorem Works.setRsq (h : Works s u) {q : Rsq}
    (held : ∀ a ∈ q.held, a ∈ u.rsq.held ∨
      (a.kind = .openRelay → a.origin ≠ .manual → (u.outlet a.outlet).rank.val ≤ 14)) :
    Works s { u with rsq := q } :=
  { h with unasked := fun r a ha => (held a ha).elim (h.unasked r a) id }

/-- The warm-up count. -/
theorem Works.setWarmup (h : Works s u) {n : Nat} (hn : n ≤ 8) :
    Works s { u with osu := { u.osu with warmup := n } } :=
  { h with
    runtime := fun f => (runtimeInRange_iff _).mpr { (runtimeInRange_iff u).mp (h.runtime f) with warmup := hn } }

/-- The tally count. -/
theorem Works.setCount (h : Works s u) {n : Nat} (hn : n ≤ 4294967295) :
    Works s { u with tly := { u.tly with count := n } } :=
  { h with
    runtime := fun f => (runtimeInRange_iff _).mpr { (runtimeInRange_iff u).mp (h.runtime f) with count := hn } }

/-- Each turn of a work keeps, so the whole work does. -/
theorem Works.foldl {α : Type} {f : State → α → State} (step : ∀ u a, Works u (f u a)) (h : Works s u) (l : List α) :
    Works s (l.foldl f u) :=
  foldl_keeps (P := Works s) (fun b a hb => hb.trans (step b a)) l u h

end Sys2Proof.Machine
end

section
/-! The rules of `Works` for the Relay Sequencer's operations and events. -/

namespace Sys2Proof.Machine

open Sys2Proof.Safety

variable {s u : State}

/-! ### Counted draws -/

theorem Draw.InRange.zero : Draw.zero.InRange := by simp [Draw.InRange, Draw.zero]

theorem Reading.draw_inRange {r : Reading} (h : ReadingInRange r) : r.draw.InRange := by
  obtain ⟨hp, hs, -, hi, -, -⟩ := h
  exact ⟨hp, hs, hi⟩

theorem Outlet.rememberedDraw_inRange {x : Outlet} (hr : ReadingInRange x.reading) (hx : x.RuntimeInRange) :
    x.rememberedDraw.InRange := by
  unfold Outlet.rememberedDraw
  cases h : x.remembered with
  | none => exact Reading.draw_inRange hr
  | some d => exact hx.2 d h

/-- An outlet counts nothing, its reading or its remembered draw (R41). -/
theorem State.counted_cases (s : State) (o : OutletIx) :
    s.counted o = Draw.zero ∨ s.counted o = (s.outlet o).reading.draw ∨ s.counted o = (s.outlet o).rememberedDraw := by
  unfold State.counted
  split <;> simp

theorem FiguresHold.counted (f : FiguresHold s) (o : OutletIx) : (s.counted o).InRange := by
  rcases s.counted_cases o with h | h | h <;> rw [h]
  · exact Draw.InRange.zero
  · exact Reading.draw_inRange (f.readings o)
  · exact Outlet.rememberedDraw_inRange (f.readings o) (f.runtime.outlets o)

/-! ### Outlet records -/

section
variable {o : OutletIx}

/-- A record that differs in nothing the invariants read of an outlet. -/
theorem OutletKept.of_eq {y : Outlet} (hr : y.reading = (u.outlet o).reading) (he : y.energy = (u.outlet o).energy)
    (hg : y.gains = (u.outlet o).gains) (ho : y.offset = (u.outlet o).offset) (hk : y.rank = (u.outlet o).rank)
    (runtime : FiguresHold s → FiguresHold u → y.RuntimeInRange)
    (stands : OutletStands (u.outlet o) → OutletStands y) : OutletKept s u o y where
  reading h := hr ▸ h
  energy h := he ▸ h
  config h := by unfold Outlet.ConfigInRange; rw [hg, ho]; exact h
  rank := hk
  runtime := runtime
  stands := stands

theorem OutletKept.opened {reason : ShedReason} {d : Draw} (hn : reason ≠ .none)
    (hd : FiguresHold s → d.InRange) : OutletKept s u o ((u.outlet o).opened reason d) :=
  .of_eq rfl rfl rfl rfl rfl
    (fun f g => ⟨(g.runtime.outlets o).1, fun _ h => Option.mem_some.mp h ▸ hd f⟩)
    (fun _ => ⟨by simp [Outlet.opened, hn], fun _ => rfl⟩)

theorem OutletKept.restored : OutletKept s u o (u.outlet o).restored :=
  .of_eq rfl rfl rfl rfl rfl (fun _ g => g.runtime.outlets o)
    (fun _ => ⟨by simp [Outlet.restored], by simp [Outlet.restored]⟩)

theorem Outlet.clearClosing_runtime {x : Outlet} (h : x.RuntimeInRange) : x.clearClosing.RuntimeInRange := by
  unfold Outlet.clearClosing
  split
  · exact ⟨h.1, by simp⟩
  · exact h

theorem Outlet.clearClosing_stands {x : Outlet} (h : OutletStands x) : OutletStands x.clearClosing := by
  unfold Outlet.clearClosing
  split
  · next e => exact ⟨h.1, fun n => absurd e n⟩
  · exact h

@[simp] theorem Outlet.clearClosing_reading (x : Outlet) : x.clearClosing.reading = x.reading := by
  unfold Outlet.clearClosing; split <;> rfl
@[simp] theorem Outlet.clearClosing_energy (x : Outlet) : x.clearClosing.energy = x.energy := by
  unfold Outlet.clearClosing; split <;> rfl
@[simp] theorem Outlet.clearClosing_gains (x : Outlet) : x.clearClosing.gains = x.gains := by
  unfold Outlet.clearClosing; split <;> rfl
@[simp] theorem Outlet.clearClosing_offset (x : Outlet) : x.clearClosing.offset = x.offset := by
  unfold Outlet.clearClosing; split <;> rfl
@[simp] theorem Outlet.clearClosing_rank (x : Outlet) : x.clearClosing.rank = x.rank := by
  unfold Outlet.clearClosing; split <;> rfl

/-- A closing draw cleared leaves a record that meets what it met. -/
theorem OutletKept.clearClosing {y : Outlet} (h : OutletKept s u o y) : OutletKept s u o y.clearClosing where
  reading r := by rw [Outlet.clearClosing_reading]; exact h.reading r
  energy r := by rw [Outlet.clearClosing_energy]; exact h.energy r
  config r := by
    unfold Outlet.ConfigInRange
    rw [Outlet.clearClosing_gains, Outlet.clearClosing_offset]
    exact h.config r
  rank := by rw [Outlet.clearClosing_rank]; exact h.rank
  runtime f g := Outlet.clearClosing_runtime (h.runtime f g)
  stands r := Outlet.clearClosing_stands (h.stands r)

/-- A record left as it is. -/
theorem OutletKept.self : OutletKept s u o (u.outlet o) :=
  .of_eq rfl rfl rfl rfl rfl (fun _ g => g.runtime.outlets o) id

/-- A settle countdown that a completion sets (R33). -/
theorem OutletKept.settle {y : Outlet} (h : OutletKept s u o y) (p : Position) :
    OutletKept s u o (y.settle u.station.settleSweeps p) :=
  { h with runtime := fun f g => ⟨g.config.station.2.2.2.1, (h.runtime f g).2⟩ }

/-- A record adopted from the sensed position (R17). -/
theorem OutletKept.adopt {y : Outlet} (h : OutletKept s u o y) (p : Position) : OutletKept s u o (y.adopt p) := by
  cases p with
  | closed =>
    exact { h with
      runtime := fun f g => ⟨(h.runtime f g).1, by simp [Outlet.adopt]⟩
      stands := fun _ => ⟨by simp [Outlet.adopt], by simp [Outlet.adopt]⟩ }
  | opened =>
    refine { h with
      runtime := fun f g => ⟨(h.runtime f g).1, fun d hd => ?_⟩
      stands := fun _ => ⟨by simp [Outlet.adopt], fun _ => rfl⟩ }
    exact Option.mem_some.mp hd ▸ Outlet.rememberedDraw_inRange (h.reading (g.readings o)) (h.runtime f g)

theorem OutletKept.actionDone (kind : ActionKind) :
    OutletKept s u o ((u.outlet o).actionDone kind u.station.settleSweeps) := by
  have h : OutletKept s u o ({ u.outlet o with feedback := kind.target }) :=
    .of_eq rfl rfl rfl rfl rfl (fun _ g => g.runtime.outlets o) id
  unfold Outlet.actionDone
  dsimp only
  split
  · exact (h.settle _).clearClosing
  · exact h.settle _

theorem OutletKept.actionTimedOut (kind : ActionKind) (p : Position) :
    OutletKept s u o ((u.outlet o).actionTimedOut kind p) := by
  have h : OutletKept s u o ({ u.outlet o with feedback := p, actuator := .faulted }) :=
    .of_eq rfl rfl rfl rfl rfl (fun _ g => g.runtime.outlets o) id
  unfold Outlet.actionTimedOut
  dsimp only
  split
  · exact h.clearClosing
  · exact h

end

/-! ### Lanes and requests -/

@[simp] theorem State.supersede_outlets (s : State) (o : OutletIx) : (s.supersede o).outlets = s.outlets := by
  unfold State.supersede; split <;> rfl

@[simp] theorem State.supersede_outlet (s : State) (o p : OutletIx) : (s.supersede o).outlet p = s.outlet p := by
  simp [State.outlet]

@[simp] theorem State.enqueue_outlet (s : State) (a : Action) (o : OutletIx) : (s.enqueue a).outlet o = s.outlet o := by
  simp [State.enqueue, State.outlet]

@[simp] theorem State.supersede_brm (s : State) (o : OutletIx) : (s.supersede o).brm = s.brm := by
  unfold State.supersede; split <;> rfl

@[simp] theorem State.enqueue_branch (s : State) (a : Action) (b : BranchIx) : (s.enqueue a).branch b = s.branch b := by
  simp [State.enqueue, State.branch]

theorem Rsq.mem_held_remove {q : Rsq} {o : OutletIx} {a : Action} (h : a ∈ (q.remove o).held) : a ∈ q.held := by
  simp only [Rsq.held, Rsq.remove, List.mem_append, List.mem_filter] at h ⊢
  tauto

theorem Rsq.mem_held_append {q : Rsq} {a b : Action} (h : a ∈ (q.append b).held) : a ∈ q.held ∨ a = b := by
  unfold Rsq.append at h
  split at h <;> simp only [Rsq.held, List.mem_append, List.mem_singleton] at h ⊢ <;> tauto

theorem Works.remove (h : Works s u) (o : OutletIx) : Works s { u with rsq := u.rsq.remove o } :=
  h.setRsq fun _ ha => .inl (Rsq.mem_held_remove ha)

theorem Works.append (h : Works s u) {a : Action}
    (ha : a.kind = .openRelay → a.origin ≠ .manual → (u.outlet a.outlet).rank.val ≤ 14) :
    Works s { u with rsq := u.rsq.append a } :=
  h.setRsq fun _ hb => (Rsq.mem_held_append hb).imp id fun e => by rw [e]; exact ha

theorem Works.supersede (h : Works s u) (o : OutletIx) : Works s (u.supersede o) := by
  unfold State.supersede
  split
  · exact (h.remove o).raiseDone _ _ _
  · exact h

/-- An accepted request that opens no protected outlet (R133, R134). -/
theorem Works.enqueue (h : Works s u) {a : Action}
    (ha : a.kind = .openRelay → a.origin ≠ .manual → (u.outlet a.outlet).rank.val ≤ 14) : Works s (u.enqueue a) :=
  (h.supersede a.outlet).append (by simpa using ha)

/-! ### Retirements and the choice -/

theorem Works.startStagger (h : Works s u) : Works s u.startStagger := h.same rfl

theorem Works.clearInFlight (h : Works s u) : Works s u.clearInFlight :=
  h.setRsq fun a ha => .inl (by
    simp only [Rsq.held, Option.map_none, Option.toList_none, List.nil_append, List.mem_append] at ha ⊢
    tauto)

theorem Works.staggered (h : Works s u) (k : ActionKind) :
    Works s (if k = .closeRelay then u.startStagger else u) := by
  split
  · exact h.startStagger
  · exact h

theorem Works.retireDone (h : Works s u) (a : Action) : Works s (u.retireDone a) :=
  ((h.clearInFlight.setOutlet (.actionDone a.kind)).staggered a.kind).raiseDone _ _ _

theorem Works.retireTimeout (h : Works s u) (a : Action) : Works s (u.retireTimeout a) :=
  (((h.clearInFlight.setOutlet (.actionTimedOut a.kind _)).staggered a.kind).raise _).raiseDone _ _ _

theorem Works.retireFaulted (h : Works s u) (n : Nat) (a : Action) : Works s (u.retireFaulted n a) := by
  unfold State.retireFaulted
  dsimp only
  split
  · exact (h.setOutlet OutletKept.self.clearClosing).raiseDone _ _ _
  · exact h.raiseDone _ _ _

theorem Works.completeRearm (h : Works s u) (n : Nat) (a : Action) : Works s (u.completeRearm n a) :=
  (h.setOutlet ((OutletKept.self.adopt _).settle _)).raiseDone _ _ _

/-- What the choice takes: the head of a lane, the other lanes left (R136). -/
theorem State.takeNext_held {a : Action} {q : Rsq} (h : s.takeNext = some (a, q)) :
    q.inFlight = s.rsq.inFlight ∧ a ∈ s.rsq.held ∧ ∀ b ∈ q.held, b ∈ s.rsq.held := by
  unfold State.takeNext at h
  split at h
  · next c rest _ hu =>
    obtain ⟨rfl, rfl⟩ := Prod.mk.inj (Option.some.inj h)
    simp only [Rsq.held, hu, List.mem_append, List.mem_cons, true_and]
    exact ⟨by tauto, by tauto⟩
  · next c rest hu hs =>
    split at h
    · cases h
    · obtain ⟨rfl, rfl⟩ := Prod.mk.inj (Option.some.inj h)
      simp only [Rsq.held, hu, hs, List.mem_append, List.mem_cons, true_and]
      exact ⟨by tauto, by tauto⟩
  · cases h

theorem Works.chooseUpTo (stamp n : Nat) (h : Works s u) : Works s (chooseUpTo stamp n u) := by
  induction n generalizing u with
  | zero => exact h
  | succ n ih =>
    unfold Machine.chooseUpTo
    split
    · exact h
    · next hf =>
      split
      · exact h
      · next a q hq =>
        obtain ⟨hin, ha, hsub⟩ := State.takeNext_held hq
        have taken : Works s { u with rsq := q } := h.setRsq fun b hb => .inl (hsub b hb)
        dsimp only
        split
        · exact ih (taken.completeRearm stamp a)
        · split
          · exact ih (taken.retireFaulted stamp a)
          · refine h.setRsq fun b hb => .inl ?_
            simp only [Rsq.held, Option.map_some, Option.toList_some, List.mem_append, List.mem_singleton] at hb
            rcases hb with (rfl | hb) | hb
            · exact ha
            · exact hsub b (by simp [Rsq.held, hb])
            · exact hsub b (by simp [Rsq.held, hb])

theorem Works.chooseAt (h : Works s u) (stamp : Nat) : Works s (u.chooseAt stamp) := h.chooseUpTo _ _

theorem Works.choose (h : Works s u) : Works s u.choose := h.chooseAt _

/-! ### Commands -/

/-- Every answer of an outcome is a state that work within the phase reaches. -/
def Answers (s : State) (o : Host.Outcome State Fault Refusal) : Prop := ∀ t, o = .next t → Works s t

theorem answers_unlessHeld {f : State → State} (h : Works s (f s)) : Answers s (unlessHeld s f) := by
  rintro t ⟨⟩
  split
  · exact .refl s
  · exact h

theorem Works.withPins (h : Works s u) (pins : Contacts) : Works s (u.withPins pins) := h.same rfl

/-- The record of the action in flight rewritten, the action kept. -/
theorem Works.setInFlight (h : Works s u) {f g : InFlight} (hf : u.rsq.inFlight = some f) (hg : g.action = f.action) :
    Works s { u with rsq := { u.rsq with inFlight := some g } } :=
  h.setRsq fun a ha => .inl (by simpa [Rsq.held, hf, hg] using ha)

theorem execStaggerTimerExpiry_answers (pins : Contacts) (s : State) : Answers s (execStaggerTimerExpiry pins s) := by
  refine answers_unlessHeld ?_
  have h := (Works.refl s).withPins pins
  dsimp only
  split
  · refine Works.choose ?_
    exact h.same rfl
  · exact h

theorem execFeedbackTargetSensed_answers (pins : Contacts) (s : State) :
    Answers s (execFeedbackTargetSensed pins s) := by
  refine answers_unlessHeld ?_
  split
  · exact (Works.refl s).withPins pins
  · next f hf =>
    dsimp only
    split
    · exact ((Works.refl s).withPins _).setInFlight hf rfl
    · exact (((Works.refl s).withPins _).retireDone _).choose

theorem execCoilPulseEnd_answers (pins : Contacts) (s : State) : Answers s (execCoilPulseEnd pins s) := by
  refine answers_unlessHeld ?_
  have h := (Works.refl s).withPins pins
  dsimp only
  split
  · exact h
  · next f hf =>
    split
    · exact h
    · split
      · exact (h.retireDone _).choose
      · exact h.setInFlight hf rfl

theorem execFeedbackWindowTimeout_answers (pins : Contacts) (s : State) :
    Answers s (execFeedbackWindowTimeout pins s) := by
  refine answers_unlessHeld ?_
  have h := (Works.refl s).withPins pins
  dsimp only
  split
  · exact h
  · next f hf =>
    split
    · split
      · exact h.setInFlight hf rfl
      · exact (h.retireDone _).choose
    · exact (h.retireTimeout _).choose

theorem execPulseEndAdoption_answers (o : OutletIx) (pins : Contacts) (s : State) :
    Answers s (execPulseEndAdoption o pins s) := by
  refine answers_unlessHeld ?_
  have h := (Works.refl s).withPins pins
  dsimp only
  split
  · exact h
  · refine h.setOutlet ?_
    have hx : OutletKept s (s.withPins pins) o ({ (s.withPins pins).outlet o with residualPulse := none }) :=
      .of_eq rfl rfl rfl rfl rfl (fun _ g => g.runtime.outlets o) id
    split
    · exact hx
    · exact hx.adopt _

theorem Works.checkOutlet (h : Works s u) (o : OutletIx) : Works s (u.checkOutlet o) := by
  unfold State.checkOutlet
  split
  · exact h
  · dsimp only
    split
    · refine (h.setOutlet ?_).raise _
      exact .of_eq rfl rfl rfl rfl rfl (fun _ g => g.runtime.outlets o) id
    · exact h.setOutlet (.of_eq rfl rfl rfl rfl rfl (fun _ g => g.runtime.outlets o) id)

theorem execMismatchCheck_answers (pins : Contacts) (s : State) : Answers s (execMismatchCheck pins s) := by
  refine answers_unlessHeld ?_
  have h := (Works.refl s).withPins pins
  dsimp only
  split
  · exact h
  · refine Works.foldl (fun u o => (Works.refl u).checkOutlet o) ?_ _
    exact h.same rfl

end Sys2Proof.Machine
end

section
/-! The rules of `Works` for branch protection and curtailment. -/

namespace Sys2Proof.Machine

open Sys2Proof.Safety

variable {s u : State}

/-! ### Candidates -/

/-- What `pick` chooses is of the list, whatever the order. -/
theorem pick_mem {α : Type} {before : α → α → Bool} {l : List α} {x : α} (h : pick before l = some x) : x ∈ l := by
  cases l with
  | nil => simp [pick] at h
  | cons a l =>
    simp only [pick, Option.some.injEq] at h
    subst h
    have key : ∀ (l : List α) (b : α), l.foldl (fun best y => if before y best then y else best) b ∈ b :: l := by
      intro l
      induction l with
      | nil => simp
      | cons c l ih =>
        intro b
        rw [List.foldl_cons]
        rcases List.mem_cons.mp (ih (if before c b then c else b)) with hc | hc
        · rw [hc]
          split <;> simp
        · exact List.mem_cons_of_mem _ (List.mem_cons_of_mem _ hc)
    exact key l a

theorem mem_outletsOf {b : BranchIx} {o : OutletIx} : o ∈ outletsOf b ↔ branchOf o = b := by
  simp [outletsOf, allOutlets]

theorem outletsOf_length (b : BranchIx) : (outletsOf b).length = 8 := by
  revert b
  decide

theorem State.tripCandidate_mem {b : BranchIx} {c : OwnCandidate} (h : s.tripCandidate b = some c) :
    branchOf c.outlet = b ∧ s.mayTrip c.outlet = true := by
  obtain ⟨o, ho, rfl⟩ := List.mem_map.mp (pick_mem h)
  obtain ⟨hb, hm⟩ := List.mem_filter.mp ho
  exact ⟨mem_outletsOf.mp hb, hm⟩

theorem State.mayTrip_rank {o : OutletIx} (h : s.mayTrip o = true) : (s.outlet o).rank.val ≤ 14 := by
  simp only [State.mayTrip, Bool.and_eq_true, decide_eq_true_eq] at h
  exact h.1.2

theorem State.ownShed_mem {k : SlotIx} {c : OwnCandidate} (h : s.ownShed k = some c) :
    s.mayShed k c.outlet = true := by
  obtain ⟨o, ho, rfl⟩ := List.mem_map.mp (pick_mem h)
  exact (List.mem_filter.mp ho).2

theorem State.mayShed_rank {k : SlotIx} {o : OutletIx} (h : s.mayShed k o = true) : (s.outlet o).rank.val ≤ 14 := by
  simp only [State.mayShed, Bool.and_eq_true, decide_eq_true_eq] at h
  exact h.1.1.1.2

/-- An own candidate first in the row may be shed (R102, R105). -/
theorem State.firstShed_own {k : SlotIx} {c : RowCandidate} {o : OutletIx} (h : s.firstShed k = some c)
    (ho : c.own = some o) : s.mayShed k o = true := by
  rcases List.mem_append.mp (pick_mem h) with hc | hc
  · obtain ⟨d, hd, rfl⟩ := Option.map_eq_some_iff.mp (Option.mem_toList.mp hc)
    cases ho
    exact State.ownShed_mem hd
  · obtain ⟨e, -, he⟩ := List.mem_filterMap.mp hc
    obtain ⟨d, -, rfl⟩ := Option.map_eq_some_iff.mp he
    cases ho

/-! ### Branch records -/

/-- A sum of figures, each within a bound. -/
theorem sum_map_le_length_mul {α : Type} (l : List α) (f : α → Nat) (n : Nat) (h : ∀ a ∈ l, f a ≤ n) :
    (l.map f).sum ≤ l.length * n := by
  simpa using List.sum_le_card_nsmul (l.map f) n (by simpa using h)

theorem FiguresHold.branchCurrent (f : FiguresHold s) (b : BranchIx) : s.branchCurrent b ≤ 160000 := by
  have h := sum_map_le_length_mul (outletsOf b) (fun o => (s.counted o).i) 20000 fun o _ => (f.counted o).2.2
  rw [outletsOf_length] at h
  exact h

section
variable {b : BranchIx}

/-- A record that keeps the configured fields, with its counts in range and its standing kept. -/
theorem BranchKept.of_eq {y : Branch} (hl : y.limit = (u.branch b).limit) (hd : y.tripDelay = (u.branch b).tripDelay)
    (hp : y.restorePercent = (u.branch b).restorePercent) (hh : y.restoreHold = (u.branch b).restoreHold)
    (runtime : FiguresHold s → FiguresHold u → y.RuntimeInRange)
    (stands : (u.branch b).Stands b → y.Stands b) : BranchKept s u b y where
  config h := by unfold BranchConfigInRange; rw [hl, hd, hp, hh]; exact h
  runtime := runtime
  stands := stands

theorem Works.unprotectable (h : Works s u) (b : BranchIx) : Works s (u.unprotectable b) := by
  unfold State.unprotectable
  split
  · exact h
  · refine (h.setBranch ?_).raise _
    exact .of_eq rfl rfl rfl rfl (fun _ g => g.runtime.branches b) id

theorem Works.setBranchHold (h : Works s u) {n : Nat} (hn : FiguresHold s → FiguresHold u → n ≤ 250)
    (hz : (u.branch b).state = .shed ∨ n = 0) : Works s (u.setBranchHold b n) := by
  refine h.setBranch (.of_eq rfl rfl rfl rfl (fun f g => ?_) fun k => ⟨fun hs => ?_, k.2⟩)
  · obtain ⟨hc, ho, -⟩ := g.runtime.branches b
    exact ⟨hc, ho, hn f g⟩
  · exact hz.resolve_left hs

/-- A trip that is accepted, of a branch that is not in SHED (R126). -/
theorem Works.tripOutlet (h : Works s u) {o : OutletIx} (ho : branchOf o = b) (hm : u.mayTrip o = true)
    (hb : (u.branch b).state ≠ .shed) (hc : FiguresHold s → (u.counted o).InRange) : Works s (u.tripOutlet b o) := by
  have accepted := h.enqueue (a := u.branchAction o .openRelay) fun _ _ => State.mayTrip_rank hm
  have marked := (accepted.setOutlet (OutletKept.opened (o := o) (reason := .branch) (by decide) hc)).raise
    (.branchTrip b o)
  refine Works.choose (marked.setBranch ?_)
  refine .of_eq rfl rfl rfl rfl (fun _ g => g.runtime.branches b) fun ⟨hold, _, _⟩ => ?_
  exact ⟨fun _ => hold (by simpa using hb), by simp, fun o' ho' => Option.mem_some.mp ho' ▸ ho⟩

theorem Works.trip (h : Works s u) (hb : (u.branch b).state ≠ .shed)
    (hc : ∀ o, FiguresHold s → (u.counted o).InRange) : Works s (u.trip b) := by
  unfold State.trip
  split
  · exact h.unprotectable b
  · next c hcand =>
    obtain ⟨ho, hm⟩ := State.tripCandidate_mem hcand
    split
    · exact h.tripOutlet ho hm hb (hc _)
    · exact h
    · exact h
    · exact h

theorem Works.tripTest (h : Works s u) (hb : (u.branch b).state ≠ .shed) : Works s (u.tripTest b) := by
  unfold State.tripTest
  split
  · exact h.trip hb fun o f => (h.figures f).counted o
  · exact h

theorem Works.restoreOutlet (h : Works s u) (o : OutletIx) : Works s (u.restoreOutlet b o) := by
  have accepted := h.enqueue (a := u.branchAction o .closeRelay) fun hk => by cases hk
  exact ((accepted.setOutlet OutletKept.restored).setBranchHold (fun _ _ => Nat.zero_le _) (.inr rfl)).choose

theorem Works.branchRestoreTest (h : Works s u) (hb : (u.branch b).state = .shed) :
    Works s (u.branchRestoreTest b) := by
  unfold State.branchRestoreTest
  have held := h.setBranchHold (b := b) (n := min ((u.branch b).holdCount + 1) (u.branch b).restoreHold)
    (fun _ g => (Nat.min_le_right _ _).trans (g.config.branches b).2.2.2.2) (.inl hb)
  have cleared := h.setBranchHold (b := b) (n := 0) (fun _ _ => Nat.zero_le _) (.inr rfl)
  split
  · exact cleared
  · split
    · dsimp only
      split
      · split
        · exact held.restoreOutlet _
        · exact held
        · exact held
        · exact held
      · exact held
    · exact cleared

/-- A rest state is NORMAL or SHED (R125). -/
theorem State.restState_cases (s : State) (b : BranchIx) : s.restState b = .normal ∨ s.restState b = .shed := by
  unfold State.restState
  split <;> simp

/-- The end of TRIPPING: another state, with no tripped outlet (R128). -/
theorem Works.leaveTripping (h : Works s u) (hb : (u.branch b).state = .tripping) {state : BranchState}
    (hs : state ≠ .tripping) {count : Nat} (hc : count ≤ (u.branch b).tripDelay) (flag : Bool) :
    Works s (u.setBranch b { u.branch b with
      state := state, overCount := count, tripped := none, unprotectable := flag }) := by
  refine h.setBranch (.of_eq rfl rfl rfl rfl (fun _ g => ?_) fun k => ?_)
  · exact ⟨(g.runtime.branches b).1, hc.trans (g.config.branches b).2.1.2, (g.runtime.branches b).2.2⟩
  · exact ⟨fun _ => k.1 (by simp [hb]), by simpa using hs, by simp⟩

theorem Works.stepTripping (h : Works s u) (hb : (u.branch b).state = .tripping) (isOver : Bool) :
    Works s (u.stepTripping b isOver) := by
  unfold State.stepTripping
  dsimp only
  split
  · exact h
  · split
    · exact h.leaveTripping hb (by decide) (Nat.le_refl _) _
    · have rest := h.leaveTripping hb (state := u.restState b)
        (by rcases u.restState_cases b with e | e <;> simp [e]) (Nat.zero_le _) false
      split
      · next e => exact rest.branchRestoreTest (by simpa using e)
      · exact rest

/-- The state step of a branch whose record stands (R125). -/
theorem Works.stepBranchState (h : Works s u) (b : BranchIx) : Works s (u.stepBranchState b) := by
  unfold State.stepBranchState
  dsimp only
  split
  · next hs =>
    split
    · refine Works.tripTest (h.setBranch (.of_eq rfl rfl rfl rfl (fun _ g => ?_) fun k => ?_)) (by simp)
      · exact ⟨(g.runtime.branches b).1, by simp, (g.runtime.branches b).2.2⟩
      · exact ⟨fun _ => k.1 (by simp [hs]), by simpa [hs] using k.2.1, k.2.2⟩
    · exact h
  · next hs =>
    split
    · refine Works.tripTest (h.setBranch (.of_eq rfl rfl rfl rfl (fun _ g => ?_) fun k => ?_)) (by simp)
      · exact ⟨(g.runtime.branches b).1, by simp, by simp⟩
      · exact ⟨fun _ => rfl, by simpa [hs] using k.2.1, k.2.2⟩
    · split
      · refine h.setBranch (.of_eq rfl rfl rfl rfl (fun _ g => ?_) fun k => ?_)
        · exact ⟨(g.runtime.branches b).1, (g.runtime.branches b).2.1, by simp⟩
        · exact ⟨fun _ => rfl, by simpa [hs] using k.2.1, k.2.2⟩
      · exact h.branchRestoreTest hs
  · next hs =>
    split
    · refine Works.tripTest (h.setBranch (.of_eq rfl rfl rfl rfl (fun _ g => ?_) fun k => ?_)) (by simp [hs])
      · exact ⟨(g.runtime.branches b).1, (Nat.min_le_right _ _).trans (g.config.branches b).2.1.2,
          (g.runtime.branches b).2.2⟩
      · exact k
    · refine h.setBranch (.of_eq rfl rfl rfl rfl (fun _ g => ?_) fun k => ?_)
      · exact ⟨(g.runtime.branches b).1, by simp, (g.runtime.branches b).2.2⟩
      · have none : (u.branch b).tripped = none := by simpa [hs] using k.2.1
        exact ⟨fun _ => k.1 (by simp [hs]), by rcases u.restState_cases b with e | e <;> simp [e, none], k.2.2⟩
  · next hs => exact h.stepTripping hs _

theorem Works.stepBranch (h : Works s u) (b : BranchIx) : Works s (u.stepBranch b) := by
  refine Works.stepBranchState (h.setBranch ?_) b
  exact .of_eq rfl rfl rfl rfl (fun _ g => ⟨g.branchCurrent b, (g.runtime.branches b).2⟩) id

end

theorem execBrmSweepCompletion_answers (pins : Contacts) (s : State) :
    Answers s (execBrmSweepCompletion pins s) := by
  refine answers_unlessHeld ?_
  have h := (Works.refl s).withPins pins
  dsimp only
  split
  · exact h
  · refine Works.foldl (fun u b => (Works.refl u).stepBranch b) ?_ _
    exact h.same rfl

/-! ### Curtailment -/

theorem FiguresHold.settleTicks (f : FiguresHold s) : 1 ≤ s.settleTicks ∧ s.settleTicks ≤ 3750000 := by
  obtain ⟨-, -, ⟨hl, hh⟩, -⟩ := f.config.station
  simp only [State.settleTicks, Config.secondTicks, Config.ticksPerMs]
  omega

theorem Works.startSettle (h : Works s u) (k : SlotIx) : Works s (u.startSettle k) :=
  h.setCurSlot fun _ g => ⟨(g.runtime.items k).1, fun _ hn => Option.mem_some.mp hn ▸ g.settleTicks⟩

theorem Works.setHold (h : Works s u) (k : SlotIx) {n : Nat} (hn : FiguresHold s → FiguresHold u → n ≤ 60) :
    Works s (u.setHold k n) :=
  h.setCurSlot fun f g => ⟨hn f g, (g.runtime.items k).2⟩

theorem Works.uncurtailable (h : Works s u) (k : SlotIx) (stamp : Nat) : Works s (u.uncurtailable k stamp) := by
  unfold State.uncurtailable
  split
  · exact h
  · refine (h.setCurSlot fun _ g => ?_).raiseAt _ _
    exact g.runtime.items k

theorem Works.sendNote (h : Works s u) (id : Nat) (d : NoteDirection) (rank draw : Nat) :
    Works s (u.sendNote id d rank draw) := by
  unfold State.sendNote
  split
  · exact h.same rfl
  · exact h

theorem Works.electShed (h : Works s u) {k : SlotIx} {o : OutletIx} (hm : u.mayShed k o = true) (stamp rank draw : Nat) :
    Works s (u.electShed k stamp o rank draw) := by
  have accepted := h.enqueue (a := tenantAction k o .openRelay) fun _ _ => State.mayShed_rank hm
  have marked := accepted.setOutlet (OutletKept.opened (o := o) (reason := .tenant) (by decide)
    fun f => (h.figures f).counted o)
  exact (((marked.sendNote _ _ _ _).raiseAt _ _).startSettle k).chooseAt stamp

theorem Works.shedElection (h : Works s u) (k : SlotIx) (stamp : Nat) : Works s (u.shedElection k stamp) := by
  unfold State.shedElection
  split
  · exact h.uncurtailable k stamp
  · next c hc =>
    split
    · exact h
    · next o ho =>
      split
      · exact h.electShed (State.firstShed_own hc ho) _ _ _
      · exact h
      · exact h
      · exact h

theorem Works.electRestore (h : Works s u) (k : SlotIx) (o : OutletIx) (stamp rank draw : Nat) :
    Works s (u.electRestore k stamp o rank draw) := by
  have accepted := h.enqueue (a := tenantAction k o .closeRelay) fun hk => by cases hk
  have marked := accepted.setOutlet (OutletKept.restored (o := o))
  exact ((((marked.sendNote _ _ _ _).raiseAt _ _).startSettle k).setHold k fun _ _ => Nat.zero_le _).chooseAt stamp

theorem Works.restoreElection (h : Works s u) (k : SlotIx) (stamp : Nat) (c : RowCandidate) :
    Works s (u.restoreElection k stamp c) := by
  unfold State.restoreElection
  split
  · exact h
  · split
    · exact h.electRestore _ _ _ _ _
    · exact h
    · exact h
    · exact h

theorem Works.restoreTest (h : Works s u) (k : SlotIx) (stamp : Nat) : Works s (u.restoreTest k stamp) := by
  have held := h.setHold k (n := min ((u.curSlot k).hold + 1) (u.tenant k).restoreHold)
    fun _ g => (Nat.min_le_right _ _).trans (g.config.tenants k).2.2.2.2.2.2
  have cleared := h.setHold k (n := 0) fun _ _ => Nat.zero_le _
  unfold State.restoreTest
  split
  · exact cleared
  · split
    · dsimp only
      split
      · exact held.restoreElection _ _ _
      · exact held
    · exact cleared

theorem CurSlot.refresh_inRange {c : CurSlot} (h : c.InRange) (state : TenantState) : (c.refresh state).InRange := by
  refine ⟨?_, h.2⟩
  unfold CurSlot.refresh
  dsimp only
  split
  · exact h.1
  · exact Nat.zero_le _

theorem Works.curtailSlot (h : Works s u) (stamp : Nat) (k : SlotIx) : Works s (u.curtailSlot stamp k) := by
  have fresh := h.setCurSlot (k := k) (y := (u.curSlot k).refresh (u.slot k).state) fun _ g =>
    CurSlot.refresh_inRange (g.runtime.items k) _
  unfold State.curtailSlot
  split
  · exact h
  · split
    · exact h
    · dsimp only
      split
      · exact fresh
      · split
        · exact fresh.shedElection k stamp
        · exact fresh.restoreTest k stamp
        · exact fresh
        · exact fresh
        · exact fresh
        · exact fresh

theorem execCurTallyCompletion_answers (pins : Contacts) (s : State) : Answers s (execCurTallyCompletion pins s) := by
  refine answers_unlessHeld ?_
  have h := (Works.refl s).withPins pins
  dsimp only
  split
  · exact h
  · refine Works.foldl (fun u k => (Works.refl u).curtailSlot _ k) ?_ _
    exact h.same rfl

theorem execCurNote_answers (s : State) : Answers s (execCurNote s) := by
  refine answers_unlessHeld ?_
  split
  · exact .refl s
  · next n rest _ =>
    dsimp only
    have taken : Works s { s with cur := { s.cur with notes := rest } } := .of_bare rfl
    split
    · exact taken
    · exact taken.startSettle _

theorem CurSlot.expire_inRange {c : CurSlot} (h : c.InRange) : c.expire.InRange := by
  rcases c.expire_cases with ⟨-, e⟩ | ⟨-, e⟩ <;> rw [e]
  · exact h
  · exact ⟨h.1, by simp⟩

theorem execSettleTimerExpiry_answers (k : SlotIx) (s : State) : Answers s (execSettleTimerExpiry k s) :=
  answers_unlessHeld ((Works.refl s).setCurSlot fun _ g => CurSlot.expire_inRange (g.runtime.items k))

end Sys2Proof.Machine
end

section
/-! The rules of `Works` for metering, the tally and the energy counters. -/

namespace Sys2Proof.Machine

open Sys2Proof.Safety

variable {s u : State}

/-! ### Metering -/

/-- A calibrated reading is within R29's clamps. -/
theorem calibrate_inRange (x : Outlet) (band : Band) (r : FrontEndReply) :
    (calibrate x band r).1.InRange ∧ (calibrate x band r).1.p ≤ (calibrate x band r).1.s := by
  simp only [calibrate, clampTo, Draw.InRange, Config.maxPower, Config.maxCurrent]
  omega

theorem Works.setReading (h : Works s u) {o : OutletIx} {r : Reading}
    (hr : ReadingInRange (u.outlet o).reading → ReadingInRange r) :
    Works s (u.setOutlet o { u.outlet o with reading := r }) :=
  h.setOutlet
    { reading := hr, energy := id, config := id, rank := rfl, runtime := fun _ g => g.runtime.outlets o, stands := id }

theorem Works.answered (h : Works s u) (o : OutletIx) : Works s (u.answered o) := by
  have fresh : Works s (u.setOutlet o
      { u.outlet o with reading := { (u.outlet o).reading with misses := 0, stale := false } }) :=
    h.setReading fun ⟨hp, hs, hps, hi, _, _⟩ => ⟨hp, hs, hps, hi, by simp, by simp⟩
  unfold State.answered
  dsimp only
  split
  · exact fresh.raise _
  · exact fresh

theorem Works.missed (h : Works s u) (o : OutletIx) : Works s (u.missed o) := by
  unfold State.missed
  dsimp only
  split
  · refine (h.setReading fun ⟨hp, hs, hps, hi, _, _⟩ => ?_).raise _
    exact ⟨hp, hs, hps, hi, by simp [Config.staleMisses], by simp [Config.staleMisses]⟩
  · next hne =>
    split
    · next hlt =>
      simp only [Config.staleMisses] at hne hlt
      refine h.setReading fun ⟨hp, hs, hps, hi, _, hst⟩ => ⟨hp, hs, hps, hi, by dsimp only; omega, ?_⟩
      dsimp only
      rw [hst]
      omega
    · exact h

theorem Works.takeCounts (h : Works s u) (o : OutletIx) (r : FrontEndReply) : Works s (u.takeCounts o r) := by
  unfold State.takeCounts
  dsimp only
  split
  · refine h.setReading fun ⟨_, _, _, _, hm, hst⟩ => ?_
    obtain ⟨⟨hp, hs, hi⟩, hps⟩ := calibrate_inRange (u.outlet o) u.osu.band r
    exact ⟨hp, hs, hps, hi, hm, hst⟩
  · exact h

section
variable {o : OutletIx}

theorem OutletKept.settled : OutletKept s u o (u.outlet o).settled := by
  unfold Outlet.settled
  split
  · next e =>
    exact .of_eq rfl rfl rfl rfl rfl (fun _ _ => ⟨by simp, by simp⟩) fun k => ⟨k.1, fun hn => absurd e.2 hn⟩
  · exact .of_eq rfl rfl rfl rfl rfl (fun _ g => ⟨by simp, (g.runtime.outlets o).2⟩) id

theorem OutletKept.runDown : OutletKept s u o (u.outlet o).runDown := by
  unfold Outlet.runDown
  split
  · exact .settled
  · exact .of_eq rfl rfl rfl rfl rfl
      (fun _ g => ⟨(Nat.sub_le _ 1).trans (g.runtime.outlets o).1, (g.runtime.outlets o).2⟩) id

end

theorem Works.dispose (h : Works s u) (o : OutletIx) (outcome : Option FrontEndReply) :
    Works s (u.dispose o outcome) := by
  unfold State.dispose
  dsimp only
  refine Works.setOutlet ?_ .runDown
  split
  · exact (h.answered o).takeCounts o _
  · exact h.missed o

theorem Works.firstRequest (h : Works s u) : Works s u.firstRequest := h.same rfl

theorem Works.startSweep (h : Works s u) : Works s u.startSweep := by
  unfold State.startSweep
  dsimp only
  split
  · exact h.same rfl
  · refine Works.firstRequest ?_
    exact h.same rfl

theorem Works.handSweep (h : Works s u) : Works s u.handSweep := by
  unfold State.handSweep
  split
  · exact h
  · exact h.setWarmup (Nat.min_le_right _ _)
  · exact h.same rfl

theorem Works.completeSweep (h : Works s u) : Works s u.completeSweep := by
  have idle : Works s { u with osu := { u.osu with stage := .idle } } := h.same rfl
  unfold State.completeSweep
  dsimp only
  split
  · exact idle.handSweep.startSweep
  · exact idle.handSweep

theorem Works.endVisit (h : Works s u) : Works s u.endVisit := by
  unfold State.endVisit
  split
  · exact h.same rfl
  · exact h.completeSweep

theorem Works.visit (h : Works s u) (outcome : Option FrontEndReply) : Works s (u.visit outcome) :=
  (h.dispose _ outcome).endVisit

theorem Works.sensorFailed (h : Works s u) : Works s u.sensorFailed := by
  unfold State.sensorFailed
  split
  · exact h
  · refine Works.raise ?_ _
    exact h.same rfl

theorem execSweepTimerExpiry_answers (s : State) : Answers s (execSweepTimerExpiry s) := by
  refine answers_unlessHeld ?_
  have h := Works.refl s
  split
  · exact h
  · split
    · exact h.startSweep
    · exact h.same rfl
    · exact h.same rfl

theorem execTempReadEnd_answers (result : TempResult) (s : State) : Answers s (execTempReadEnd result s) := by
  refine answers_unlessHeld ?_
  have h := Works.refl s
  split
  · split
    · exact h.sensorFailed.firstRequest
    · split
      · exact (h.same (t := s.sensorRead _) rfl).firstRequest
      · exact h.sensorFailed.firstRequest
  · exact h
  · exact h

theorem execTempReadTimeout_answers (s : State) : Answers s (execTempReadTimeout s) := by
  refine answers_unlessHeld ?_
  have h := Works.refl s
  split
  · exact h.sensorFailed.firstRequest
  · exact h
  · exact h

theorem execReadingReply_answers (r : FrontEndReply) (s : State) : Answers s (execReadingReply r s) := by
  refine answers_unlessHeld ?_
  have h := Works.refl s
  split
  · exact h.visit _
  · exact h
  · exact h

theorem execReadingTimeout_answers (s : State) : Answers s (execReadingTimeout s) := by
  refine answers_unlessHeld ?_
  have h := Works.refl s
  split
  · exact h.visit _
  · exact h
  · exact h

theorem execLateReply_answers (r : FrontEndReply) (s : State) : Answers s (execLateReply r s) := by
  rintro t ⟨⟩
  exact .refl s

theorem execSettleCountdownEnd_answers (o : OutletIx) (s : State) : Answers s (execSettleCountdownEnd o s) := by
  refine answers_unlessHeld ?_
  split
  · exact (Works.refl s).setOutlet .settled
  · exact .refl s

/-! ### The figures of a tally -/

theorem Draw.InRange.byMode {d : Draw} (h : d.InRange) (m : CountMode) : d.byMode m ≤ 40000 := by
  cases m
  · exact h.1
  · exact h.2.1

/-- L is at most 48 × (40,000 + 255) (R58). -/
theorem FiguresHold.localContribution (f : FiguresHold s) (k : SlotIx) : s.localContribution k ≤ 1932240 := by
  have each : ∀ o, s.contributionOf k o ≤ 40255 := fun o => by
    have hv : s.countedValue k o ≤ 40000 := (f.counted o).byMode _
    have ha : (s.tenant k).allowance ≤ 255 := (f.config.tenants k).2.2.2.1
    unfold State.contributionOf
    split <;> omega
  have number : (allOutlets.filter fun o => (s.outlet o).countsFor k).length ≤ 48 :=
    (List.length_filter_le _ _).trans (by simp [allOutlets])
  exact (sum_map_le_length_mul _ _ _ fun o _ => each o).trans (Nat.mul_le_mul_right 40255 number)

theorem State.mem_entriesOf {k : SlotIx} {e : DynEntry} (h : e ∈ s.entriesOf k) : ∃ i, e ∈ s.entry i := by
  obtain ⟨i, -, hi⟩ := List.mem_filterMap.mp (List.mem_filter.mp h).1
  exact ⟨i, hi⟩

theorem State.mem_fixedOf {k : SlotIx} {e : FixedEntry} (h : e ∈ s.fixedOf k) : ∃ n, e ∈ s.fixedEntry n := by
  obtain ⟨n, -, hn⟩ := List.mem_filterMap.mp (List.mem_filter.mp h).1
  exact ⟨n, hn⟩

theorem DynEntry.adjusted_le {e : DynEntry} (h : e.InRange) : e.adjusted ≤ 16817215 := by
  obtain ⟨-, hc, -, -, -, -, ha⟩ := h
  unfold DynEntry.adjusted
  split
  · omega
  · next a e' =>
    have := ha a e'
    split <;> omega

/-- A is at most L, 8 fixed entries and 128 adjusted contributions (R46), within 32 bits (R58). -/
theorem FiguresHold.aggregateOf (f : FiguresHold s) (k : SlotIx) : s.aggregateOf k (s.localContribution k) ≤ 4294967295 := by
  have hl := f.localContribution k
  have hf : ((s.fixedOf k).map (·.contribution)).sum ≤ 8 * 16777215 := by
    refine (sum_map_le_length_mul _ _ 16777215 fun e he => ?_).trans (Nat.mul_le_mul_right _ ?_)
    · obtain ⟨n, hn⟩ := State.mem_fixedOf he
      have := (f.config.fixed n e hn).1
      omega
    · exact (List.length_filter_le _ _).trans ((List.length_filterMap_le _ _).trans (by simp [allFixed]))
  have hd : ((s.entriesOf k).map (·.adjusted)).sum ≤ 128 * 16817215 := by
    refine (sum_map_le_length_mul _ _ 16817215 fun e he => ?_).trans (Nat.mul_le_mul_right _ ?_)
    · obtain ⟨i, hi⟩ := State.mem_entriesOf he
      exact DynEntry.adjusted_le (f.table.entries i e hi)
    · exact (List.length_filter_le _ _).trans ((List.length_filterMap_le _ _).trans (by simp [allPlaces]))
  unfold State.aggregateOf
  omega

/-- The least of codes that are not 0 is not 0, and at most the first. -/
theorem foldl_min_bounds (l : List Nat) (c : Nat) (hc : c ≠ 0) (hl : ∀ d ∈ l, d ≠ 0) :
    1 ≤ l.foldl min c ∧ l.foldl min c ≤ c := by
  induction l generalizing c with
  | nil => exact ⟨Nat.one_le_iff_ne_zero.mpr hc, Nat.le_refl _⟩
  | cons d l ih =>
    have hd := hl d (by simp)
    obtain ⟨h1, h2⟩ := ih (min c d) (by omega) fun x hx => hl x (by simp [hx])
    exact ⟨h1, h2.trans (Nat.min_le_left _ _)⟩

/-- C of a contracted slot is between one code and the largest (R49). -/
theorem FiguresHold.effectiveContract (f : FiguresHold s) {k : SlotIx} (hk : (s.tenant k).contractCode ≠ 0) :
    100 ≤ s.effectiveContract k ∧ s.effectiveContract k ≤ 6553500 := by
  obtain ⟨h1, h2⟩ := foldl_min_bounds (((s.freshEntriesOf k).map (·.code)).filter fun c => c != 0)
    (s.tenant k).contractCode hk fun d hd => by simpa using (List.mem_filter.mp hd).2
  have hc : (s.tenant k).contractCode ≤ 65535 := (f.config.tenants k).2.1
  unfold State.effectiveContract State.leastCode
  omega

theorem FiguresHold.burstAllowance (f : FiguresHold s) {k : SlotIx} (hk : (s.tenant k).contractCode ≠ 0) :
    s.effectiveContract k * (s.tenant k).burst ≤ 1671142500 :=
  (Nat.mul_le_mul (f.effectiveContract hk).2 (f.config.tenants k).2.2.1).trans (by norm_num)

theorem State.tallyRecord_credit (s : State) (k : SlotIx) : (s.tallyRecord k).CreditBounded := by
  unfold State.tallyRecord
  dsimp only
  split
  · exact ⟨Nat.le_refl _, Nat.zero_le _⟩
  · refine ⟨Nat.min_le_right _ _, ?_⟩
    dsimp only [uncoveredExcess]
    split <;> omega

theorem FiguresHold.tallyRecord (f : FiguresHold s) (k : SlotIx) : SlotInRange (s.tallyRecord k) := by
  unfold State.tallyRecord
  dsimp only
  split
  · exact ⟨f.localContribution k, f.aggregateOf k, .inl rfl, Nat.zero_le _, f.runtime.count⟩
  · next hk =>
    exact ⟨f.localContribution k, f.aggregateOf k, .inr (f.effectiveContract hk), f.burstAllowance hk, f.runtime.count⟩

theorem Works.storeSlot (h : Works s u) {k : SlotIx} {x : SlotRuntime}
    (credit : (u.slot k).CreditBounded → x.CreditBounded) (range : FiguresHold s → FiguresHold u → SlotInRange x) :
    Works s (u.storeSlot k x) := by
  unfold State.storeSlot
  dsimp only
  split
  · exact h.setSlot credit range
  · exact (h.setSlot credit range).raise _

theorem Works.tallySlot (h : Works s u) (k : SlotIx) : Works s (u.tallySlot k) := by
  unfold State.tallySlot
  split
  · exact h.storeSlot (fun _ => u.tallyRecord_credit k) fun _ g => g.tallyRecord k
  · exact h

theorem nextTally_le (n : Nat) : nextTally n ≤ 4294967295 := by
  unfold nextTally Config.word32
  omega

theorem Works.handTally (h : Works s u) : Works s u.handTally := h.same rfl

theorem execTallyTimerExpiry_answers (s : State) : Answers s (execTallyTimerExpiry s) := by
  refine answers_unlessHeld ?_
  split
  · exact .refl s
  · have counted := (Works.refl s).setCount (n := nextTally s.tly.count) (nextTally_le _)
    have started : Works s { s with tly := { s.tly with timer := some Config.tallyTicks, count := nextTally s.tly.count } } :=
      counted.same rfl
    have tallied := started.foldl (fun u k => (Works.refl u).tallySlot k) allSlots
    exact tallied.handTally

/-! ### The entry into RUN -/

theorem Works.enterSlot (h : Works s u) (k : SlotIx) : Works s (u.enterSlot k) := by
  unfold State.enterSlot
  split
  · refine h.storeSlot (fun hc => ?_) fun _ g => ?_
    · unfold State.runRecord
      split
      · exact hc
      · exact ⟨Nat.le_refl _, hc.2⟩
    · obtain ⟨hl, ha, hc, hb, ht⟩ := g.runtime.slots k
      unfold State.runRecord
      split
      · exact ⟨hl, ha, hc, hb, ht⟩
      · next hk => exact ⟨hl, ha, .inr (g.effectiveContract hk), g.burstAllowance hk, ht⟩
  · exact h

/-! ### Energy and overage -/

theorem Counter.add_inRange (c : Counter) (n : Nat) : CounterInRange (c.add n) :=
  ⟨Nat.mod_lt _ (by decide), Nat.mod_lt _ (by decide)⟩

theorem Works.addOutletEnergy (h : Works s u) (stamp : Nat) (o : OutletIx) : Works s (u.addOutletEnergy stamp o) := by
  have added : Works s (u.setOutlet o
      { u.outlet o with energy := (u.outlet o).energy.add (u.outlet o).energyFigure }) :=
    h.setOutlet
      { reading := id, energy := fun _ => Counter.add_inRange _ _, config := id, rank := rfl
        runtime := fun _ g => g.runtime.outlets o, stands := id }
  unfold State.addOutletEnergy
  dsimp only
  split
  · exact added.raiseAt _ _
  · exact added

theorem Works.addSlotEnergy (h : Works s u) (stamp : Nat) (k : SlotIx) : Works s (u.addSlotEnergy stamp k) := by
  have added : Works s (u.setCounters k
      { u.counters k with energy := (u.counters k).energy.add (u.slotEnergyFigure k) }) :=
    h.setCounters (fun c => ⟨Counter.add_inRange _ _, c.2⟩) fun _ g => g.runtime.shares k
  unfold State.addSlotEnergy
  dsimp only
  split
  · exact added.raiseAt _ _
  · exact added

/-- The attributed overage is at most L, since U is at most A (R153). -/
theorem attribution_le {r : SlotRuntime} (h : r.CreditBounded) : attribution r ≤ r.localDraw := by
  unfold attribution
  split
  · exact Nat.zero_le _
  · refine Nat.div_le_of_le_mul ?_
    exact Nat.mul_le_mul_right _ h.2

theorem Works.addOverage (h : Works s u) (stamp : Nat) (k : SlotIx) : Works s (u.addOverage stamp k) := by
  unfold State.addOverage
  dsimp only
  split
  · refine h.setCounters ?_ fun _ _ => Nat.zero_le _
    exact id
  · have added : Works s (u.setCounters k
        { u.counters k with
          overage := (u.counters k).overage.add (attribution (u.slot k)), lastAttributed := attribution (u.slot k) }) :=
      h.setCounters (fun c => ⟨c.1, Counter.add_inRange _ _⟩) fun _ g =>
        (attribution_le (g.credits k)).trans (g.runtime.slots k).1
    split
    · exact added.raiseAt _ _
    · exact added

theorem Works.accountSlot (h : Works s u) (stamp : Nat) (k : SlotIx) : Works s (u.accountSlot stamp k) := by
  unfold State.accountSlot
  split
  · exact (h.addSlotEnergy stamp k).addOverage stamp k
  · exact h

theorem execEctTallyCompletion_answers (s : State) : Answers s (execEctTallyCompletion s) := by
  refine answers_unlessHeld ?_
  split
  · exact .refl s
  · next n rest _ =>
    have taken : Works s { s with ect := { s.ect with tallies := rest } } := .of_bare rfl
    exact (taken.foldl (fun u o => (Works.refl u).addOutletEnergy n o) allOutlets).foldl
      (fun u k => (Works.refl u).accountSlot n k) allSlots

end Sys2Proof.Machine
end

section
/-! The rules of `Works` for the Contribution Table and the row link. -/

namespace Sys2Proof.Machine

open Sys2Proof.Safety Sys2Proof.Claims

variable {s u : State}

/-! ### Frames received are in range -/

/-- A number read from some bytes is below the power of their count. -/
theorem bytesNat_take_lt (l : List Byte) (i w : Nat) : bytesNat ((l.drop i).take w) < 256 ^ w :=
  (bytesNat_lt _).trans_le (Nat.pow_le_pow_right (by decide) (List.length_take_le _ _))

theorem parseCandidate_inRange {maxRank flags draw : Nat} {c : Option Candidate}
    (h : parseCandidate maxRank flags draw = some c) : CandidateInRange maxRank c := by
  unfold parseCandidate at h
  split at h
  · cases h
    simp [CandidateInRange]
  · split at h
    · next hr =>
      obtain ⟨-, -, hrank, hdraw⟩ := hr
      cases h
      intro x hx
      rw [← Option.some.inj hx]
      exact ⟨hrank, hdraw⟩
    · cases h

/-- A tenant entry within R68's ranges. -/
def EntryInRange (e : SummaryEntry) : Prop :=
  1 ≤ e.tenantId ∧ e.tenantId ≤ 4095 ∧ e.contribution < 16777216 ∧ e.code < 65536 ∧
    CandidateInRange 14 e.shed ∧ CandidateInRange 15 e.restore

theorem parseEntry_inRange {bytes : List Byte} {e : SummaryEntry} (h : parseEntry bytes = some e) : EntryInRange e := by
  unfold parseEntry at h
  dsimp only at h
  split at h
  · next hs hr =>
    split at h
    · next hid =>
      cases h
      exact ⟨hid.1, hid.2, bytesNat_take_lt bytes 2 3, bytesNat_take_lt bytes 5 2, parseCandidate_inRange hs,
        parseCandidate_inRange hr⟩
    · cases h
  · cases h

theorem parseEntries_inRange {n : Nat} {bytes : List Byte} {l : List SummaryEntry}
    (h : parseEntries n bytes = some l) : l.length = n ∧ ∀ e ∈ l, EntryInRange e := by
  induction n generalizing bytes l with
  | zero =>
    cases h
    simp
  | succ n ih =>
    unfold parseEntries at h
    split at h
    · next e rest he hrest =>
      cases h
      obtain ⟨hl, hr⟩ := ih hrest
      refine ⟨by simp [hl], fun x hx => ?_⟩
      rcases List.mem_cons.mp hx with rfl | hx
      · exact parseEntry_inRange he
      · exact hr x hx
    · cases h

theorem parseNote_inRange {bytes : List Byte} {c : FrameContent} (h : parseNote bytes = some c) : ContentInRange c := by
  unfold parseNote at h
  dsimp only at h
  split at h
  · next hr =>
    obtain ⟨-, h1, h2, h3, h4⟩ := hr
    cases h
    exact ⟨h1, h2, Nat.le_of_lt_succ h3, h4, bytesNat_take_lt bytes 5 1⟩
  · cases h

theorem parseSummary_inRange {bytes : List Byte} {c : FrameContent} (h : parseSummary bytes = some c) :
    ContentInRange c := by
  unfold parseSummary at h
  dsimp only at h
  split at h
  · next hr =>
    obtain ⟨-, h1, h2, h3⟩ := hr
    obtain ⟨l, hl, rfl⟩ := Option.map_eq_some_iff.mp h
    obtain ⟨hlen, hin⟩ := parseEntries_inRange hl
    exact ⟨bytesNat_take_lt bytes 0 1, h3, hlen ▸ h1, hlen ▸ h2, hin⟩
  · cases h

theorem parseAnnounce_inRange {bytes : List Byte} {c : FrameContent} (h : parseAnnounce bytes = some c) :
    ContentInRange c := by
  unfold parseAnnounce at h
  split at h
  · split at h
    · next hr =>
      cases h
      exact hr
    · cases h
  · cases h

/-- A valid frame is within the ranges that R75 checks, its sender among the stations 1..63. -/
theorem parseFrame_inRange {bytes : List Byte} {station : Nat} {c : FrameContent}
    (h : parseFrame bytes = some (station, c)) : (1 ≤ station ∧ station ≤ 63) ∧ ContentInRange c := by
  unfold parseFrame at h
  dsimp only at h
  split at h
  · cases h
  · next key rest _ =>
    split at h
    · next hk =>
      obtain ⟨d, hd, he⟩ := Option.map_eq_some_iff.mp h
      cases he
      refine ⟨⟨hk.2, Nat.le_of_lt_succ (Nat.mod_lt _ (by decide))⟩, ?_⟩
      unfold parseContent at hd
      split at hd
      · exact parseNote_inRange hd
      · exact parseSummary_inRange hd
      · exact parseAnnounce_inRange hd
      · cases hd
    · cases h

/-! ### The Contribution Table -/

theorem entryFrom_inRange {k : SlotIx} {station stamp : Nat} {mismatch : Bool} {e : SummaryEntry}
    (hs : 1 ≤ station ∧ station ≤ 63) (hstamp : stamp < 256) (he : EntryInRange e) :
    (entryFrom k station stamp mismatch e).InRange := by
  obtain ⟨-, -, hc, hcode, hshed, hrestore⟩ := he
  exact ⟨hs, hc, Nat.le_of_lt_succ hcode, Nat.le_of_lt_succ hstamp, hshed, hrestore, by simp [entryFrom]⟩

theorem Works.storeEntry (h : Works s u) {i : PlaceIx} {e : DynEntry} (he : TableParts u → e.InRange) :
    Works s (u.setEntry i (some e)) :=
  h.setEntry fun _ t _ hx => Option.mem_some.mp hx ▸ he t

theorem Works.checkMismatch (h : Works s u) {i : PlaceIx} {e : DynEntry} (he : e.InRange) :
    Works s (u.checkMismatch i e) := by
  unfold State.checkMismatch
  split
  · exact h.storeEntry fun _ => he
  · split
    · exact h.storeEntry fun _ => he
    · split
      · exact h.storeEntry fun _ => he
      · refine Works.raise (h.storeEntry fun _ => ?_) _
        exact he

theorem Works.refuseCreation (h : Works s u) (k : SlotIx) (station : Nat) : Works s (u.refuseCreation k station) := by
  unfold State.refuseCreation
  split
  · exact h
  · refine Works.raise ?_ _
    exact h.same rfl

theorem Works.learn (h : Works s u) {station stamp : Nat} {k : SlotIx} {e : SummaryEntry}
    (hs : 1 ≤ station ∧ station ≤ 63) (hstamp : stamp < 256) (he : EntryInRange e) :
    Works s (u.learn station stamp k e) := by
  unfold State.learn
  split
  · exact h
  · split
    · exact h.checkMismatch (entryFrom_inRange hs hstamp he)
    · split
      · exact h.checkMismatch (entryFrom_inRange hs hstamp he)
      · exact h.refuseCreation k station

theorem Works.learnSummary (h : Works s u) {station stamp : Nat} {entries : List SummaryEntry}
    (hs : 1 ≤ station ∧ station ≤ 63) (hstamp : stamp < 256) (he : ∀ e ∈ entries, EntryInRange e) :
    Works s (u.learnSummary station stamp entries) := by
  unfold State.learnSummary
  induction entries generalizing u with
  | nil => exact h
  | cons e rest ih =>
    refine ih ?_ fun x hx => he x (List.mem_cons_of_mem _ hx)
    dsimp only
    split
    · exact h.learn hs hstamp (he e List.mem_cons_self)
    · exact h

theorem Works.ageEntry (h : Works s u) (i : PlaceIx) : Works s (u.ageEntry i) := by
  unfold State.ageEntry
  split
  · exact h
  · next e he =>
    split
    · refine h.storeEntry fun t => ?_
      exact t.entries i e he
    · have removed := h.setEntry (i := i) (y := none) fun _ _ _ hx => by cases hx
      dsimp only
      refine Works.raise ?_ _
      exact removed.same rfl

theorem execAgingTimerExpiry_answers (s : State) : Answers s (execAgingTimerExpiry s) := by
  refine answers_unlessHeld ?_
  split
  · exact .refl s
  · have started : Works s { s with ctb := { s.ctb with timer := some s.agingTicks } } := .of_bare rfl
    exact started.foldl (fun u i => (Works.refl u).ageEntry i) allPlaces

theorem execPendingAdjustmentExpiry_answers (i : PlaceIx) (s : State) :
    Answers s (execPendingAdjustmentExpiry i s) := by
  refine answers_unlessHeld ?_
  split
  · next e he =>
    refine (Works.refl s).storeEntry fun t => ?_
    obtain ⟨hs, hc, hcode, hstamp, hshed, hrestore, ha⟩ := t.entries i e he
    refine ⟨hs, hc, hcode, hstamp, hshed, hrestore, fun a ha' => ?_⟩
    obtain ⟨b, hb, hab⟩ := Option.bind_eq_some_iff.mp ha'
    rcases b.expire_cases with ⟨-, eq⟩ | ⟨-, eq⟩ <;> rw [eq] at hab <;> cases hab
    exact ha b hb
  · exact .refl s

theorem Works.applyNote (h : Works s u) {n : HeardNote} (hn : TableParts s → n.draw ≤ 40000) :
    Works s (u.applyNote n) := by
  unfold State.applyNote
  split
  · exact h
  · split
    · exact h
    · next i _ =>
      refine h.setEntry fun ts t x hx => ?_
      obtain ⟨e, he, rfl⟩ := Option.map_eq_some_iff.mp hx
      obtain ⟨hs, hc, hcode, hstamp, hshed, hrestore, -⟩ := t.entries i e he
      exact ⟨hs, hc, hcode, hstamp, hshed, hrestore, fun a ha => Option.mem_some.mp ha ▸ hn ts⟩

theorem execCtbNote_answers (s : State) : Answers s (execCtbNote s) := by
  refine answers_unlessHeld ?_
  split
  · exact .refl s
  · next n rest hl =>
    have taken := (Works.refl s).setNotes (l := rest) fun t x hx => t.notes x (hl ▸ List.mem_cons_of_mem n hx)
    exact taken.applyNote fun t => t.notes n (hl ▸ List.mem_cons_self)

/-! ### The row link -/

theorem execContendOnIdleLine_answers (s : State) : Answers s (execContendOnIdleLine s) := by
  refine answers_unlessHeld ?_
  split
  · exact .of_bare rfl
  · exact .refl s

theorem execArbitrationLost_answers (s : State) : Answers s (execArbitrationLost s) := by
  refine answers_unlessHeld ?_
  split
  · exact .refl s
  · exact .of_bare rfl

theorem execTransmitSuccess_answers (s : State) : Answers s (execTransmitSuccess s) := by
  refine answers_unlessHeld ?_
  split
  · exact .refl s
  · dsimp only
    split
    · refine Works.raise ?_ _
      exact .of_bare rfl
    · exact .of_bare rfl

theorem execTransmitFailure_answers (s : State) : Answers s (execTransmitFailure s) := by
  refine answers_unlessHeld ?_
  split
  · exact .refl s
  · dsimp only
    split
    · refine Works.raise ?_ _
      exact .of_bare rfl
    · exact .of_bare rfl

theorem execRetryTimerExpiry_answers (s : State) : Answers s (execRetryTimerExpiry s) := by
  refine answers_unlessHeld ?_
  split
  · exact .refl s
  · exact .of_bare rfl

theorem Works.sendSummaries (h : Works s u) : Works s u.sendSummaries := by
  unfold State.sendSummaries
  dsimp only
  split
  · exact h
  · exact h.same rfl

theorem execRlcTallyCompletion_answers (s : State) : Answers s (execRlcTallyCompletion s) := by
  refine answers_unlessHeld ?_
  split
  · exact .refl s
  · next rest _ =>
    have taken : Works s { s with rlc := { s.rlc with tallies := rest } } := .of_bare rfl
    dsimp only
    split
    · exact taken.sendSummaries
    · exact taken

theorem Works.receiveError (h : Works s u) : Works s u.receiveError := h.same rfl

theorem Works.goSilent (h : Works s u) : Works s u.goSilent := by
  refine Works.raise ?_ _
  exact h.same rfl

theorem Works.handNote (h : Works s u) {n : HeardNote} (hn : n.draw ≤ 40000) : Works s (u.handNote n) := by
  have noted := h.setNotes (l := u.ctb.notes ++ [n]) fun t x hx => by
    rcases List.mem_append.mp hx with hx | hx
    · exact t.notes x hx
    · exact List.mem_singleton.mp hx ▸ hn
  exact noted.same rfl

theorem Works.handFrame (h : Works s u) {station : Nat} {c : FrameContent} (hs : 1 ≤ station ∧ station ≤ 63)
    (hc : ContentInRange c) : Works s (u.handFrame station c) := by
  unfold State.handFrame
  split
  · split
    · exact h
    · exact h.goSilent
  · split
    · exact h
    · exact h.learnSummary hs hc.1 hc.2.2.2.2
    · split
      · exact h
      · exact h.handNote hc.2.2.2.1

theorem execFrameReceived_answers (f : LineFrame) (s : State) : Answers s (execFrameReceived f s) := by
  refine answers_unlessHeld ?_
  have h := Works.refl s
  split
  · exact h
  · split
    · exact h
    · split
      · exact h.receiveError
      · split
        · exact h.receiveError
        · next hp => exact h.handFrame (parseFrame_inRange hp).1 (parseFrame_inRange hp).2

end Sys2Proof.Machine
end

section
/-! The rules of `Works` and `Keeps` for the Management Port, the start-up and the passing of time. -/

namespace Sys2Proof.Machine

open Sys2Proof.Safety

variable {s u : State}

/-! ### Transactions and reads -/

theorem Works.reply (h : Works s u) (code : Byte) (st : Status) (d : List Byte) : Works s (u.reply code st d) :=
  h.same rfl

theorem Works.refuse (h : Works s u) (code : Byte) (st : Status) : Works s (u.refuse code st) := h.reply _ _ _

theorem Works.endTransaction (h : Works s u) (n : Nat) : Works s (u.endTransaction n) := h.same rfl

/-- A port command whose work keeps. -/
theorem answers_portCommand {code : Byte} {len : Nat} {r : Record} {work : State → State}
    (h : ∀ u, Works s u → Works s (work u)) : Answers s (portCommand code len r s work) := by
  refine answers_unlessHeld ?_
  have ended := (Works.refl s).endTransaction (2 + r.params.length + r.trailing.length)
  dsimp only
  split
  · exact h _ ended
  · exact ended.refuse _ _

theorem execNoCommandTransaction_answers (bytes : List Byte) (s : State) :
    Answers s (execNoCommandTransaction bytes s) :=
  answers_unlessHeld ((Works.refl s).endTransaction _)

theorem execCutShortRecord_answers (code len : Byte) (given : List Byte) (s : State) :
    Answers s (execCutShortRecord code len given s) :=
  answers_unlessHeld (((Works.refl s).endTransaction _).refuse _ _)

theorem execUnknownCommandCode_answers (code : Byte) (r : Record) (s : State) :
    Answers s (execUnknownCommandCode code r s) :=
  answers_unlessHeld (((Works.refl s).endTransaction _).refuse _ _)

theorem execReadStatus_answers (r : Record) (s : State) : Answers s (execReadStatus r s) :=
  answers_portCommand fun _ h => h.same rfl

theorem execReadTenant_answers (r : Record) (s : State) : Answers s (execReadTenant r s) :=
  answers_portCommand fun _ h => by
    split
    · exact h.reply _ _ _
    · exact h.refuse _ _

theorem execReadOutlet_answers (r : Record) (s : State) : Answers s (execReadOutlet r s) :=
  answers_portCommand fun _ h => by
    split
    · exact h.reply _ _ _
    · exact h.refuse _ _

theorem execReadBranch_answers (r : Record) (s : State) : Answers s (execReadBranch r s) :=
  answers_portCommand fun _ h => by
    split
    · exact h.reply _ _ _
    · exact h.refuse _ _

theorem execReadContribution_answers (r : Record) (s : State) : Answers s (execReadContribution r s) :=
  answers_portCommand fun _ h => h.same rfl

theorem execSetCursor_answers (r : Record) (s : State) : Answers s (execSetCursor r s) :=
  answers_portCommand fun _ h => by
    split
    · refine Works.reply ?_ _ _ _
      exact h.same rfl
    · exact h.refuse _ _

theorem execReadNotices_answers (r : Record) (s : State) : Answers s (execReadNotices r s) :=
  answers_portCommand fun u h => by
    dsimp only
    split
    · exact (h.reply 7 .ok _).notices_set fun hq => (List.drop_sublist _ _).length_le.trans hq
    · exact h.refuse _ _

/-! ### Loads -/

theorem paramByte_le (r : Record) (i : Nat) : paramByte r i ≤ 255 := Nat.le_of_lt_succ (r.params.getD i 0).isLt

theorem paramNum_lt (r : Record) (i w : Nat) : paramNum r i w < 256 ^ w := bytesNat_take_lt _ _ _

theorem Works.setStation (h : Works s u) {x : Station} (hx : StationInRange u.station → StationInRange x) :
    Works s { u with station := x } :=
  { h with
    config := fun r =>
      let c := (configInRange_iff u).mp (h.config r)
      (configInRange_iff _).mpr { c with station := hx c.station } }

theorem Works.setTenant (h : Works s u) {k : SlotIx} {x : Tenant} (hx : TenantInRange x) :
    Works s { u with tenants := u.tenants.set k.val x } :=
  { h with
    config := fun r =>
      let c := (configInRange_iff u).mp (h.config r)
      (configInRange_iff _).mpr { c with
        tenants := fun j => by
          simp only [State.tenant, Vector.getElem_set]
          split
          · exact hx
          · exact c.tenants j } }

theorem Works.setFixed (h : Works s u) {n : FixedIx} {x : Option FixedEntry} (hx : ∀ e ∈ x, e.InRange) :
    Works s { u with ctb := { u.ctb with fixed := u.ctb.fixed.set n.val x } } :=
  { h with
    config := fun r =>
      let c := (configInRange_iff u).mp (h.config r)
      (configInRange_iff _).mpr { c with
        fixed := fun j => by
          simp only [State.fixedEntry, Vector.getElem_set]
          split
          · exact hx
          · exact c.fixed j } }

theorem Works.load {α : Type} (h : Works s u) {code : Byte} {params : Option α} {write : State → α → State}
    (hw : ∀ p, params = some p → Works s (write u p)) : Works s (u.load code params write) := by
  rcases u.load_cases code params write with ⟨-, e⟩ | ⟨-, -, e⟩ | ⟨p, -, hp, e⟩ <;> rw [e]
  · exact h.refuse _ _
  · exact h.refuse _ _
  · exact (hw p hp).reply _ _ _

theorem stationParams_inRange {r : Record} {x : Station} (h : stationParams r = some x) : StationInRange x := by
  unfold stationParams at h
  split at h
  · split at h
    · next hr =>
      obtain ⟨hid, hx1, hx2, ht1, ht2, hs, hthr, -⟩ := hr
      cases h
      exact ⟨hid, ⟨hx1, hx2⟩, ⟨ht1, ht2⟩, hs, paramByte_le r 4, hthr⟩
    · cases h
  · cases h

theorem Tenant.free_inRange : TenantInRange Tenant.free := by
  simp [TenantInRange, Tenant.free]

theorem tenantParams_inRange {r : Record} {k : SlotIx} {x : Tenant} (h : tenantParams r = some (k, x)) :
    TenantInRange x := by
  unfold tenantParams at h
  split at h
  · split at h
    · next hr =>
      obtain ⟨hid, hr1, hr2, hh1, hh2⟩ := hr
      obtain ⟨-, rfl⟩ := Prod.mk.inj (Option.some.inj h)
      split
      · exact Tenant.free_inRange
      · next hne =>
        refine ⟨fun id hmem => ?_, Nat.le_of_lt_succ (paramNum_lt r 3 2), paramByte_le r 5, paramByte_le r 7,
          ⟨hr1, hr2⟩, hh1, hh2⟩
        rw [← Option.mem_some.mp hmem]
        exact ⟨Nat.one_le_iff_ne_zero.mpr hne, hid⟩
    · cases h
  · cases h

theorem calibrationParams_inRange {r : Record} {p : CalibrationParams} (h : calibrationParams r = some p) :
    (∀ g ∈ p.gains.toList, g ≤ 65535) ∧ -512 ≤ p.offset ∧ p.offset ≤ 511 := by
  unfold calibrationParams at h
  split at h
  · split at h
    · next hr =>
      cases h
      refine ⟨fun g hg => ?_, hr⟩
      simp only [Vector.toList_mk, List.mem_cons, List.not_mem_nil, or_false] at hg
      rcases hg with rfl | rfl | rfl | rfl <;> exact Nat.le_of_lt_succ (paramNum_lt r _ 2)
    · cases h
  · cases h

theorem branchParams_inRange {r : Record} {p : BranchParams} (h : branchParams r = some p) :
    (1 ≤ p.limit ∧ p.limit ≤ 32000) ∧ (1 ≤ p.tripDelay ∧ p.tripDelay ≤ 15) ∧
      (50 ≤ p.restorePercent ∧ p.restorePercent ≤ 95) ∧ 10 ≤ p.restoreHold ∧ p.restoreHold ≤ 250 := by
  unfold branchParams at h
  split at h
  · split at h
    · next hr =>
      obtain ⟨hl1, hl2, hd1, hd2, hp1, hp2, hh⟩ := hr
      cases h
      exact ⟨⟨hl1, hl2⟩, ⟨hd1, hd2⟩, ⟨hp1, hp2⟩, hh⟩
    · cases h
  · cases h

theorem fixedParams_inRange {r : Record} {n : FixedIx} {x : Option FixedEntry} (h : fixedParams r = some (n, x)) :
    ∀ e ∈ x, e.InRange := by
  unfold fixedParams at h
  split at h
  · split at h
    · next hr =>
      obtain ⟨-, rfl⟩ := Prod.mk.inj (Option.some.inj h)
      intro e he
      obtain ⟨k, -, rfl⟩ := Option.map_eq_some_iff.mp he
      refine ⟨paramNum_lt r 2 3, fun c hc => ?_⟩
      dsimp only at hc
      split at hc
      · cases hc
      · next hne =>
        rw [← Option.mem_some.mp hc]
        exact ⟨Nat.one_le_iff_ne_zero.mpr hne, hr⟩
    · cases h
  · cases h

theorem execLoadStation_answers (r : Record) (s : State) : Answers s (execLoadStation r s) :=
  answers_portCommand fun _ h => h.load fun _ hp => h.setStation fun _ => stationParams_inRange hp

theorem execLoadTenant_answers (r : Record) (s : State) : Answers s (execLoadTenant r s) :=
  answers_portCommand fun _ h => h.load fun _ hp => h.setTenant (tenantParams_inRange hp)

theorem execLoadCalibration_answers (r : Record) (s : State) : Answers s (execLoadCalibration r s) :=
  answers_portCommand fun _ h => h.load fun _ hp => h.setOutlet
    { reading := id, energy := id, config := fun _ => calibrationParams_inRange hp, rank := rfl
      runtime := fun _ g => g.runtime.outlets _, stands := id }

theorem execLoadBranch_answers (r : Record) (s : State) : Answers s (execLoadBranch r s) :=
  answers_portCommand fun _ h => h.load fun _ hp => h.setBranch
    { config := fun _ => branchParams_inRange hp, runtime := fun _ g => g.runtime.branches _, stands := id }

theorem execLoadFixed_answers (r : Record) (s : State) : Answers s (execLoadFixed r s) :=
  answers_portCommand fun _ h => h.load fun _ hp => h.setFixed (fixedParams_inRange hp)

/-- LOAD OUTLET may give a rank of 15, so it keeps the invariants of figures and standings alone. -/
theorem execLoadOutlet_keeps (r : Record) (s t : State) (h : execLoadOutlet r s = .next t) : Keeps s t := by
  cases h
  split
  · exact (Works.refl s).toKeeps
  · have ended := (Works.refl s).endTransaction (2 + r.params.length + r.trailing.length)
    dsimp only
    split
    · rcases (s.endTransaction (2 + r.params.length + r.trailing.length)).load_cases 18 (outletParams r) _
        with ⟨-, e⟩ | ⟨-, -, e⟩ | ⟨p, -, -, e⟩ <;> rw [e]
      · exact (ended.refuse _ _).toKeeps
      · exact (ended.refuse _ _).toKeeps
      · refine (ended.toKeeps.setOutlet ?_).trans ((Works.refl _).reply 18 .ok []).toKeeps
        exact { reading := id, energy := id, config := id, runtime := fun _ g => g.runtime.outlets _, stands := id }
    · exact (ended.refuse _ _).toKeeps

/-! ### Commands in RUN -/

theorem Works.outletCommand (h : Works s u) {code : Byte} {index : Nat} {work : State → OutletIx → State}
    (hw : ∀ o, Works s (work u o)) : Works s (u.outletCommand code index work) := by
  unfold State.outletCommand
  split
  · exact h.refuse _ _
  · split
    · exact hw _
    · exact h.refuse _ _

section
variable {o : OutletIx}

/-- The record of an outlet opened by hand (R15). -/
theorem OutletKept.manuallyOpened {d : Draw} (hd : FiguresHold s → d.InRange) :
    OutletKept s u o ((u.outlet o).manuallyOpened d) :=
  .of_eq rfl rfl rfl rfl rfl
    (fun f g => ⟨(g.runtime.outlets o).1, fun e he => by
      rw [← Option.mem_some.mp he]
      cases hx : (u.outlet o).remembered with
      | none => exact hd f
      | some c => exact (g.runtime.outlets o).2 c hx⟩)
    (fun _ => ⟨by simp [Outlet.manuallyOpened, Outlet.opened], fun _ => rfl⟩)

/-- An outlet shed by another unit is taken over by hand (R15). -/
theorem OutletKept.takenOver (hr : (u.outlet o).reason ≠ .none) :
    OutletKept s u o { u.outlet o with reason := .manual } :=
  .of_eq rfl rfl rfl rfl rfl (fun _ g => g.runtime.outlets o)
    (fun k => ⟨by simpa using fun e => hr (k.1.mp e), fun _ => k.2 hr⟩)

end

theorem Works.openByStanding (h : Works s u) (o : OutletIx) : Works s (u.openByStanding o) := by
  have counted : FiguresHold s → (u.counted o).InRange := fun f => (h.figures f).counted o
  unfold State.openByStanding
  dsimp only
  split
  · split
    · have accepted := h.enqueue (a := u.manualAction o .openRelay) fun _ hm => absurd rfl hm
      refine Works.reply (Works.choose (accepted.setOutlet ?_)) _ _ _
      rw [← u.enqueue_outlet (u.manualAction o .openRelay) o]
      exact .manuallyOpened counted
    · exact (h.setOutlet (.manuallyOpened counted)).reply _ _ _
    · exact h.refuse _ _
    · exact h.refuse _ _
  · next hr => exact (h.setOutlet (.takenOver (by simp [hr]))).reply _ _ _
  · next hr => exact (h.setOutlet (.takenOver (by simp [hr]))).reply _ _ _
  · exact h.reply _ _ _

theorem execOutletOpen_answers (r : Record) (pins : Contacts) (s : State) : Answers s (execOutletOpen r pins s) :=
  answers_portCommand fun _ h => (h.withPins pins).outletCommand fun o => by
    split
    · exact (h.withPins pins).refuse _ _
    · exact (h.withPins pins).openByStanding o

theorem Works.closeManual (h : Works s u) (o : OutletIx) : Works s (u.closeManual o) := by
  unfold State.closeManual
  dsimp only
  split
  · have accepted := h.enqueue (a := u.manualAction o .closeRelay) fun hk => by cases hk
    refine Works.reply (Works.choose (accepted.setOutlet ?_)) _ _ _
    rw [← u.enqueue_outlet (u.manualAction o .closeRelay) o]
    exact .restored
  · exact (h.setOutlet .restored).reply _ _ _
  · exact h.refuse _ _
  · exact h.refuse _ _

theorem execOutletClose_answers (r : Record) (pins : Contacts) (s : State) : Answers s (execOutletClose r pins s) :=
  answers_portCommand fun _ h => (h.withPins pins).outletCommand fun o => by
    split
    · exact (h.withPins pins).refuse _ _
    · exact (h.withPins pins).closeManual o

theorem Works.acceptRearm (h : Works s u) (o : OutletIx) : Works s (u.acceptRearm o) := by
  have flushed := (h.remove o).foldl (fun v a => (Works.refl v).retireFaulted u.tly.count a) (u.rsq.allQueuedFor o)
  unfold State.acceptRearm
  dsimp only
  exact (flushed.append fun hk => by cases hk).choose.reply _ _ _

theorem Works.rearmFaulted (h : Works s u) (o : OutletIx) : Works s (u.rearmFaulted o) := by
  unfold State.rearmFaulted
  split
  · split
    · exact h.acceptRearm o
    · exact h.refuse _ _
  · split
    · exact h.reply _ _ _
    · split
      · exact h.acceptRearm o
      · exact h.refuse _ _

theorem execRearm_answers (r : Record) (pins : Contacts) (s : State) : Answers s (execRearm r pins s) :=
  answers_portCommand fun _ h => (h.withPins pins).outletCommand fun o => by
    split
    · exact (h.withPins pins).refuse _ _
    · exact (h.withPins pins).rearmFaulted o

theorem execSetBand_answers (r : Record) (s : State) : Answers s (execSetBand r s) :=
  answers_portCommand fun _ h => by
    split
    · exact h.refuse _ _
    · split
      · refine Works.reply (h.setStation ?_) _ _ _
        exact id
      · exact h.refuse _ _

theorem Counter.zero_inRange : CounterInRange Counter.zero := by simp [CounterInRange, Counter.zero]

theorem SlotCounters.zero_inRange : SlotCounters.zero.InRange := ⟨Counter.zero_inRange, Counter.zero_inRange⟩

/-- What holds of every outlet of a state holds of the outlets of another whose records are made from them. -/
theorem forall_outlet_mapVec {Q R : Outlet → Prop} {f : Outlet → Outlet} (hf : ∀ x, Q x → R (f x))
    (h : ∀ o, Q (s.outlet o)) (o : OutletIx) : R ((mapVec f s.outlets)[o.val]) := by
  rw [getElem_mapVec]
  exact hf _ (h o)

theorem Works.clearAll (h : Works s u) : Works s u.clearAll :=
  { h with
    readings := fun r => forall_outlet_mapVec (Q := fun x => ReadingInRange x.reading) (R := fun x => ReadingInRange x.reading)
      (fun _ => id) (h.readings r)
    outletCounters := fun r => forall_outlet_mapVec (Q := fun _ => True) (R := fun x => CounterInRange x.energy)
      (fun _ _ => Counter.zero_inRange) (fun _ => trivial)
    slotCounters := fun _ k => by
      simp only [State.counters, State.clearAll, Vector.getElem_replicate]
      exact SlotCounters.zero_inRange
    config := fun r =>
      let c := (configInRange_iff u).mp (h.config r)
      (configInRange_iff _).mpr { c with
        outlets := forall_outlet_mapVec (Q := Outlet.ConfigInRange) (fun _ => id) c.outlets }
    runtime := fun f =>
      let r := (runtimeInRange_iff u).mp (h.runtime f)
      (runtimeInRange_iff _).mpr { r with
        outlets := forall_outlet_mapVec (Q := Outlet.RuntimeInRange) (fun _ => id) r.outlets
        shares := fun k => by simp [State.counters, State.clearAll, SlotCounters.zero] }
    standings := fun r => forall_outlet_mapVec (Q := OutletStands) (fun _ => id) (h.standings r)
    unasked := fun r a ha hk hm => by
      simp only [State.outlet, State.clearAll, getElem_mapVec]
      exact h.unasked r a ha hk hm }

theorem Works.clear (h : Works s u) (t : ClearTarget) : Works s (u.clear t) := by
  cases t with
  | outlet o =>
    exact h.setOutlet
      { reading := id, energy := fun _ => Counter.zero_inRange, config := id, rank := rfl
        runtime := fun _ g => g.runtime.outlets o, stands := id }
  | slot k => exact h.setCounters (fun _ => SlotCounters.zero_inRange) fun _ _ => Nat.zero_le _
  | all => exact h.clearAll

theorem execClearCounters_answers (r : Record) (s : State) : Answers s (execClearCounters r s) :=
  answers_portCommand fun _ h => by
    split
    · exact h.refuse _ _
    · split
      · exact (h.clear _).reply _ _ _
      · exact h.refuse _ _

end Sys2Proof.Machine
end

section
/-! The rules of `Works` and `Keeps` for the start-up, the resets and the passing of time, and what every step keeps. -/

namespace Sys2Proof.Machine

open Sys2Proof.Safety

variable {s t u : State}

/-! ### A change of phase -/

/-- The port's own record, its phase included, is none of the figures. -/
theorem Keeps.setMpt (h : Keeps s u) (m : Mpt) : Keeps s { u with mpt := m } := { h with }

theorem Works.adoptOutlet (h : Works s u) (o : OutletIx) : Works s (u.adoptOutlet o) := by
  unfold State.adoptOutlet
  split
  · exact h.setOutlet (OutletKept.self.adopt _)
  · exact h

theorem Works.announce (h : Works s u) : Works s u.announce := h.same rfl

theorem Works.startAging (h : Works s u) {x : Timer} : Works s { u with ctb := { u.ctb with timer := x } } :=
  h.same rfl

theorem Keeps.enterWarmup (h : Keeps s u) : Keeps s u.enterWarmup := by
  have entered := (Works.refl { u with mpt := { u.mpt with phase := .warmup } }).foldl
    (fun u o => (Works.refl u).adoptOutlet o) allOutlets
  unfold State.enterWarmup
  dsimp only
  generalize allOutlets.foldl State.adoptOutlet _ = v at entered ⊢
  exact (h.setMpt _).trans entered.announce.startAging.startSweep.toKeeps

theorem execStart_keeps (r : Record) (pins : Contacts) (s t : State) (h : execStart r pins s = .next t) :
    Keeps s t := by
  cases h
  split
  · exact (Works.refl s).toKeeps
  · have ended := (Works.refl s).endTransaction (2 + r.params.length + r.trailing.length)
    dsimp only
    split
    · split
      · exact (ended.refuse _ _).toKeeps
      · split
        · exact (ended.reply _ _ _).toKeeps
        · exact (ended.withPins pins).toKeeps.enterWarmup.trans ((Works.refl _).reply 32 .ok []).toKeeps
    · exact (ended.refuse _ _).toKeeps

theorem Works.startTally (h : Works s u) {x : Timer} {r : Rlc} :
    Works s { u with tly := { u.tly with timer := x }, rlc := r } :=
  h.same rfl

theorem execEnterRun_keeps (s t : State) (h : execEnterRun s = .next t) : Keeps s t := by
  cases h
  split
  · exact (Works.refl s).toKeeps
  · dsimp only
    split
    · have entered := (Works.refl { s with mpt := { s.mpt with phase := .run } }).foldl
        (fun u k => (Works.refl u).enterSlot k) allSlots
      generalize allSlots.foldl State.enterSlot _ = v at entered ⊢
      exact ((Works.refl s).toKeeps.setMpt _).trans entered.startTally.toKeeps
    · exact (Works.refl s).toKeeps

/-! ### Resets -/

@[simp] theorem State.reset_outlet (o : OutletIx) : State.reset.outlet o = Outlet.reset := by
  simp [State.outlet, State.reset]
@[simp] theorem State.reset_tenant (k : SlotIx) : State.reset.tenant k = Tenant.free := by
  simp [State.tenant, State.reset]
@[simp] theorem State.reset_slot (k : SlotIx) : State.reset.slot k = SlotRuntime.reset := by
  simp [State.slot, State.reset, Tly.reset]
@[simp] theorem State.reset_curSlot (k : SlotIx) : State.reset.curSlot k = CurSlot.reset := by
  simp [State.curSlot, State.reset, Cur.reset]
@[simp] theorem State.reset_counters (k : SlotIx) : State.reset.counters k = SlotCounters.zero := by
  simp [State.counters, State.reset, Ect.reset]
@[simp] theorem State.reset_branch (b : BranchIx) : State.reset.branch b = Branch.reset := by
  simp [State.branch, State.reset, Brm.reset]
@[simp] theorem State.reset_entry (i : PlaceIx) : State.reset.entry i = none := by
  simp [State.entry, State.reset, Ctb.reset]
@[simp] theorem State.reset_fixedEntry (n : FixedIx) : State.reset.fixedEntry n = none := by
  simp [State.fixedEntry, State.reset, Ctb.reset]

theorem Reading.reset_inRange : ReadingInRange Reading.reset := by simp [ReadingInRange, Reading.reset]

theorem Outlet.reset_runtime : Outlet.reset.RuntimeInRange := by simp [Outlet.RuntimeInRange, Outlet.reset]

theorem Outlet.reset_stands : OutletStands Outlet.reset := by simp [OutletStands, Outlet.reset]

theorem Outlet.reset_config : Outlet.reset.ConfigInRange := by
  simp [Outlet.ConfigInRange, Outlet.reset]

theorem SlotRuntime.reset_credit : SlotRuntime.reset.CreditBounded := by
  simp [SlotRuntime.CreditBounded, SlotRuntime.reset]

theorem SlotRuntime.reset_inRange : SlotInRange SlotRuntime.reset := by simp [SlotInRange, SlotRuntime.reset]

theorem CurSlot.reset_inRange : CurSlot.reset.InRange := by simp [CurSlot.InRange, CurSlot.reset]

theorem Branch.reset_config : BranchConfigInRange Branch.reset := by simp [BranchConfigInRange, Branch.reset]

theorem Branch.reset_runtime : Branch.reset.RuntimeInRange := by simp [Branch.RuntimeInRange, Branch.reset]

theorem Branch.reset_stands (b : BranchIx) : Branch.reset.Stands b := by simp [Branch.Stands, Branch.reset]

theorem reset_config : ConfigParts State.reset where
  station := by simp [StationInRange, State.reset, Station.default]
  tenants _ := by rw [State.reset_tenant]; exact Tenant.free_inRange
  outlets _ := by rw [State.reset_outlet]; exact Outlet.reset_config
  branches _ := by rw [State.reset_branch]; exact Branch.reset_config
  fixed _ := by simp

theorem reset_table : TableParts State.reset where
  entries _ := by simp
  notes := by simp [State.reset, Ctb.reset]

theorem reset_runtime : RuntimeParts State.reset where
  outlets _ := by rw [State.reset_outlet]; exact Outlet.reset_runtime
  warmup := by decide
  count := by decide
  slots _ := by rw [State.reset_slot]; exact SlotRuntime.reset_inRange
  items _ := by rw [State.reset_curSlot]; exact CurSlot.reset_inRange
  shares _ := by simp [SlotCounters.zero]
  branches _ := by rw [State.reset_branch]; exact Branch.reset_runtime

/-- The reset state meets the invariants, whatever state came before. -/
theorem Keeps.reset (s : State) : Keeps s State.reset where
  notices _ := Nat.zero_le _
  readings _ _ := by rw [State.reset_outlet]; exact Reading.reset_inRange
  outletCounters _ _ := by rw [State.reset_outlet]; exact Counter.zero_inRange
  slotCounters _ _ := by rw [State.reset_counters]; exact SlotCounters.zero_inRange
  credits _ _ := by rw [State.reset_slot]; exact SlotRuntime.reset_credit
  config _ := (configInRange_iff _).mpr reset_config
  table _ := (tableInRange_iff _).mpr reset_table
  runtime _ := (runtimeInRange_iff _).mpr reset_runtime
  standings _ _ := by rw [State.reset_outlet]; exact Outlet.reset_stands
  branches _ b := by rw [State.reset_branch]; exact Branch.reset_stands b

theorem Keeps.poweredOn (s : State) (held : Bool) : Keeps s (s.poweredOn held) :=
  (Keeps.reset s).trans (Works.of_bare (s := State.reset) (t := s.poweredOn held) rfl).toKeeps

/-- The state of a RESTART before a running pulse is left to its outlet: the reset state with the configuration kept. -/
def State.configKept (s : State) : State :=
  { State.reset with
    resetHeld := s.resetHeld
    contacts := s.contacts
    dataOut := s.dataOut
    station := s.station
    tenants := s.tenants
    outlets := mapVec Outlet.restarted s.outlets
    ctb := { Ctb.reset with fixed := s.ctb.fixed }
    brm := { Brm.reset with branches := mapVec Branch.restarted s.brm.branches }
    pending := s.pending }

theorem State.restarted_eq (s : State) : s.restarted = s.configKept.leavePulse s.rsq.inFlight := rfl

theorem State.configKept_outlet (s : State) (o : OutletIx) : s.configKept.outlet o = (s.outlet o).restarted := by
  simp [State.outlet, State.configKept]

theorem State.configKept_branch (s : State) (b : BranchIx) : s.configKept.branch b = (s.branch b).restarted := by
  simp [State.branch, State.configKept]

theorem Keeps.configKept (s : State) : Keeps s s.configKept :=
  { Keeps.reset s with
    readings := fun _ o => by rw [State.configKept_outlet]; exact Reading.reset_inRange
    outletCounters := fun _ o => by rw [State.configKept_outlet]; exact Counter.zero_inRange
    config := fun r =>
      let c := (configInRange_iff s).mp r
      (configInRange_iff _).mpr
        { station := c.station
          tenants := c.tenants
          outlets := fun o => by rw [State.configKept_outlet]; exact c.outlets o
          branches := fun b => by rw [State.configKept_branch]; exact c.branches b
          fixed := c.fixed }
    runtime := fun _ => (runtimeInRange_iff _).mpr
      { reset_runtime with
        outlets := fun o => by rw [State.configKept_outlet]; exact Outlet.reset_runtime
        branches := fun b => by rw [State.configKept_branch]; exact Branch.reset_runtime }
    standings := fun _ o => by rw [State.configKept_outlet]; exact Outlet.reset_stands
    branches := fun _ b => by rw [State.configKept_branch]; exact Branch.reset_stands b }

theorem Works.leavePulse (h : Works s u) (f : Option InFlight) : Works s (u.leavePulse f) := by
  unfold State.leavePulse
  split
  · split
    · exact h.setOutlet (.of_eq rfl rfl rfl rfl rfl (fun _ g => g.runtime.outlets _) id)
    · exact h
  · exact h

theorem Keeps.restarted (s : State) : Keeps s s.restarted :=
  (Keeps.configKept s).trans ((Works.refl _).leavePulse _).toKeeps

theorem execRestart_keeps (r : Record) (s t : State) (h : execRestart r s = .next t) : Keeps s t := by
  cases h
  split
  · exact (Works.refl s).toKeeps
  · have ended := (Works.refl s).endTransaction (2 + r.params.length + r.trailing.length)
    dsimp only
    split
    · exact ended.toKeeps.trans (.restarted _)
    · exact (ended.refuse _ _).toKeeps

/-- Every outlet's left-over pulse rewritten. -/
theorem Works.mapPulses (h : Works s u) {f : Outlet → Outlet} (hf : ∀ x, ∃ p, f x = { x with residualPulse := p }) :
    Works s { u with outlets := mapVec f u.outlets } := by
  have same {Q : Outlet → Prop} (hQ : ∀ x p, Q x → Q { x with residualPulse := p }) (x : Outlet) (hx : Q x) :
      Q (f x) := by
    obtain ⟨p, e⟩ := hf x
    exact e ▸ hQ x p hx
  exact { h with
    readings := fun r => forall_outlet_mapVec (Q := fun x => ReadingInRange x.reading)
      (R := fun x => ReadingInRange x.reading) (same fun _ _ => id) (h.readings r)
    outletCounters := fun r => forall_outlet_mapVec (Q := fun x => CounterInRange x.energy)
      (R := fun x => CounterInRange x.energy) (same fun _ _ => id) (h.outletCounters r)
    config := fun r =>
      let c := (configInRange_iff u).mp (h.config r)
      (configInRange_iff _).mpr { c with
        outlets := forall_outlet_mapVec (Q := Outlet.ConfigInRange) (same fun _ _ => id) c.outlets }
    runtime := fun r =>
      let c := (runtimeInRange_iff u).mp (h.runtime r)
      (runtimeInRange_iff _).mpr { c with
        outlets := forall_outlet_mapVec (Q := Outlet.RuntimeInRange) (same fun _ _ => id) c.outlets }
    standings := fun r => forall_outlet_mapVec (Q := OutletStands) (same fun _ _ => id) (h.standings r)
    unasked := fun r a ha hk hm => by
      simp only [State.outlet, getElem_mapVec]
      exact same (Q := fun x => x.rank.val ≤ 14) (fun _ _ => id) _ (h.unasked r a ha hk hm) }

theorem execResetPinAssert_answers (s : State) : Answers s (execResetPinAssert s) := by
  rintro t ⟨⟩
  have ended := (Works.refl s).mapPulses (f := fun x => { x with residualPulse := none }) fun _ => ⟨_, rfl⟩
  have emptied := ended.setRsq (q := Rsq.reset) fun a ha => by simp [Rsq.held, Rsq.reset] at ha
  exact (emptied.setWarmup (Nat.zero_le 8)).same rfl

/-! ### The passing of time -/

theorem tickDown_bounds {n m : Nat} (h : 1 ≤ n ∧ n ≤ m) : 1 ≤ tickDown n ∧ tickDown n ≤ m := by
  unfold tickDown
  split <;> omega

theorem DynEntry.tick_inRange {e : DynEntry} (h : e.InRange) : e.tick.InRange := by
  obtain ⟨hs, hc, hcode, hstamp, hshed, hrestore, ha⟩ := h
  refine ⟨hs, hc, hcode, hstamp, hshed, hrestore, fun a ha' => ?_⟩
  obtain ⟨b, hb, rfl⟩ := Option.map_eq_some_iff.mp ha'
  exact ha b hb

theorem CurSlot.tick_inRange {c : CurSlot} (h : c.InRange) : c.tick.InRange := by
  refine ⟨h.1, fun n hn => ?_⟩
  obtain ⟨m, hm, rfl⟩ := Option.map_eq_some_iff.mp hn
  exact tickDown_bounds (h.2 m hm)

theorem Works.tickTable (h : Works s u) :
    Works s { u with ctb := { u.ctb with dyn := mapVec (fun e => e.map DynEntry.tick) u.ctb.dyn } } :=
  { h with
    table := fun r =>
      let t := (tableInRange_iff u).mp (h.table r)
      (tableInRange_iff _).mpr { t with
        entries := fun i e he => by
          simp only [State.entry, getElem_mapVec] at he
          obtain ⟨d, hd, rfl⟩ := Option.map_eq_some_iff.mp he
          exact DynEntry.tick_inRange (t.entries i d hd) } }

theorem Works.tickSlots (h : Works s u) : Works s { u with cur := { u.cur with slots := mapVec CurSlot.tick u.cur.slots } } :=
  { h with
    runtime := fun f =>
      let r := (runtimeInRange_iff u).mp (h.runtime f)
      (runtimeInRange_iff _).mpr { r with
        items := fun k => by
          simp only [State.curSlot, getElem_mapVec]
          exact CurSlot.tick_inRange (r.items k) } }

/-- A tick leaves what the sequencer holds. -/
theorem Rsq.held_tick (q : Rsq) (x : Timer) :
    ({ q with stagger := x, inFlight := q.inFlight.map InFlight.tick } : Rsq).held = q.held := by
  cases h : q.inFlight <;> simp [Rsq.held, h, InFlight.tick]

theorem Works.idle (s : State) : Works s s.idle := by
  unfold State.idle
  split
  · exact .refl s
  · have pulses := (Works.refl s).mapPulses (f := Outlet.tick) fun _ => ⟨_, rfl⟩
    have relays := pulses.setRsq (q := { s.rsq with
      stagger := Timer.tick s.rsq.stagger, inFlight := s.rsq.inFlight.map InFlight.tick })
      fun a ha => .inl (Rsq.held_tick s.rsq _ ▸ ha)
    exact relays.tickTable.tickSlots.same rfl

/-! ### Every step -/

/-- The commands after which the phase may be another, or a rank may be. -/
def Instr.ChangesPhaseOrRank : Instr → Prop
  | .powerOn | .resetPinRelease | .start _ _ | .restart _ | .enterRun | .loadOutlet _ => True
  | _ => False

/-- Every other command is work within a phase. -/
theorem exec_answers (c : Instr) (hc : ¬ Instr.ChangesPhaseOrRank c) (s : State) : Answers s (exec c s) := by
  cases c with
  | powerOn => exact absurd trivial hc
  | resetPinAssert => exact execResetPinAssert_answers s
  | resetPinRelease => exact absurd trivial hc
  | noCommandTransaction bytes => exact execNoCommandTransaction_answers bytes s
  | cutShortRecord code len given => exact execCutShortRecord_answers code len given s
  | unknownCommandCode code r => exact execUnknownCommandCode_answers code r s
  | readStatus r => exact execReadStatus_answers r s
  | readTenant r => exact execReadTenant_answers r s
  | readOutlet r => exact execReadOutlet_answers r s
  | readBranch r => exact execReadBranch_answers r s
  | readContribution r => exact execReadContribution_answers r s
  | setCursor r => exact execSetCursor_answers r s
  | readNotices r => exact execReadNotices_answers r s
  | loadStation r => exact execLoadStation_answers r s
  | loadTenant r => exact execLoadTenant_answers r s
  | loadOutlet r => exact absurd trivial hc
  | loadCalibration r => exact execLoadCalibration_answers r s
  | loadBranch r => exact execLoadBranch_answers r s
  | loadFixed r => exact execLoadFixed_answers r s
  | start r pins => exact absurd trivial hc
  | restart r => exact absurd trivial hc
  | outletOpen r pins => exact execOutletOpen_answers r pins s
  | outletClose r pins => exact execOutletClose_answers r pins s
  | rearm r pins => exact execRearm_answers r pins s
  | setBand r => exact execSetBand_answers r s
  | clearCounters r => exact execClearCounters_answers r s
  | sweepTimerExpiry => exact execSweepTimerExpiry_answers s
  | tempReadEnd result => exact execTempReadEnd_answers result s
  | tempReadTimeout => exact execTempReadTimeout_answers s
  | readingReply reply => exact execReadingReply_answers reply s
  | readingTimeout => exact execReadingTimeout_answers s
  | lateReply reply => exact execLateReply_answers reply s
  | settleCountdownEnd o => exact execSettleCountdownEnd_answers o s
  | enterRun => exact absurd trivial hc
  | tallyTimerExpiry => exact execTallyTimerExpiry_answers s
  | ectTallyCompletion => exact execEctTallyCompletion_answers s
  | curTallyCompletion pins => exact execCurTallyCompletion_answers pins s
  | rlcTallyCompletion => exact execRlcTallyCompletion_answers s
  | brmSweepCompletion pins => exact execBrmSweepCompletion_answers pins s
  | mismatchCheck pins => exact execMismatchCheck_answers pins s
  | agingTimerExpiry => exact execAgingTimerExpiry_answers s
  | pendingAdjustmentExpiry i => exact execPendingAdjustmentExpiry_answers i s
  | settleTimerExpiry k => exact execSettleTimerExpiry_answers k s
  | retryTimerExpiry => exact execRetryTimerExpiry_answers s
  | staggerTimerExpiry pins => exact execStaggerTimerExpiry_answers pins s
  | feedbackTargetSensed pins => exact execFeedbackTargetSensed_answers pins s
  | coilPulseEnd pins => exact execCoilPulseEnd_answers pins s
  | feedbackWindowTimeout pins => exact execFeedbackWindowTimeout_answers pins s
  | pulseEndAdoption o pins => exact execPulseEndAdoption_answers o pins s
  | contendOnIdleLine => exact execContendOnIdleLine_answers s
  | arbitrationLost => exact execArbitrationLost_answers s
  | transmitSuccess => exact execTransmitSuccess_answers s
  | transmitFailure => exact execTransmitFailure_answers s
  | frameReceived frame => exact execFrameReceived_answers frame s
  | ctbNote => exact execCtbNote_answers s
  | curNote => exact execCurNote_answers s

/-- Every command keeps the invariants of figures, standings and branch records. -/
theorem exec_keeps (c : Instr) (s t : State) (h : exec c s = .next t) : Keeps s t := by
  by_cases hc : Instr.ChangesPhaseOrRank c
  · unfold Instr.ChangesPhaseOrRank at hc
    split at hc
    · cases h
      exact .poweredOn s _
    · cases h
      exact .poweredOn s _
    · exact execStart_keeps _ _ s t h
    · exact execRestart_keeps _ s t h
    · exact execEnterRun_keeps s t h
    · exact execLoadOutlet_keeps _ s t h
    · exact hc.elim
  · exact (exec_answers c hc s t h).toKeeps

theorem step_keeps (s t : State) (h : step s = .next t) : Keeps s t := by
  unfold step at h
  split at h
  · cases h
    exact (Works.idle s).toKeeps
  · next c rest _ =>
    have taken : Works s { s with pending := rest } := .of_bare rfl
    exact taken.toKeeps.trans (exec_keeps c _ t h)

/-- Settles O55: each invariant is kept by every kind of change, and the bounds of the runtime rest on the others. -/
theorem stepKeepsFiguresInRange : Obligations.StepKeepsFiguresInRange := by
  intro s t h
  have k := step_keeps s t h
  refine ⟨k.notices, k.readings, fun ⟨ho, hs⟩ => ⟨k.outletCounters ho, k.slotCounters hs⟩, k.credits, k.config, k.table,
    fun hc ht hr hk hf => k.runtime ⟨?_, ?_, hr, hk, ?_⟩⟩
  · exact (configInRange_iff s).mp hc
  · exact (tableInRange_iff s).mp ht
  · exact (runtimeInRange_iff s).mp hf

/-- Settles O56: a record of an outlet or of a branch is only ever replaced by one that stands if it stood. -/
theorem stepKeepsStandingsAndBranchRecords : Obligations.StepKeepsStandingsAndBranchRecords := by
  intro s t h
  exact ⟨(step_keeps s t h).standings, (step_keeps s t h).branches⟩

end Sys2Proof.Machine
end

section
/-! What the phases gate. In RUN nothing is gated, and outside RUN no command but a change of phase touches what is. -/

namespace Sys2Proof.Machine

open Sys2Proof.Safety

variable {s t u : State}

/-! ### The gates outside RUN -/

/-- The gates of a part that is not in RUN. -/
structure GatedOutsideRun (s : State) : Prop where
  notRun : s.mpt.phase ≠ .run
  tallyTimer : s.tly.timer = none
  ectTallies : s.ect.tallies = []
  curTallies : s.cur.tallies = []
  rlcTallies : s.rlc.tallies = []
  brmSweeps : s.brm.sweeps = 0
  rsqSweeps : s.rsq.sweeps = 0
  held : heldActions s = []
  inConfig : s.mpt.phase = .config →
    s.osu.sweepTimer = none ∧ s.osu.stage = .idle ∧ s.ctb.timer = none ∧ s.rlc.link = .off

theorem phaseGates_of_run (h : s.mpt.phase = .run) (hu : ProtectedUnasked s) : PhaseGates s :=
  ⟨fun hn => absurd h hn, fun hc => absurd (h.symm.trans hc) (by decide), hu⟩

theorem phaseGates_of_gated (h : GatedOutsideRun s) : PhaseGates s :=
  ⟨fun _ => ⟨h.tallyTimer, h.ectTallies, h.curTallies, h.rlcTallies, h.brmSweeps, h.rsqSweeps, h.held⟩, h.inConfig,
    fun a ha => by simp [h.held] at ha⟩

theorem gated_of_phaseGates (h : PhaseGates s) (hn : s.mpt.phase ≠ .run) : GatedOutsideRun s := by
  obtain ⟨hrun, hconfig, -⟩ := h
  obtain ⟨h1, h2, h3, h4, h5, h6, h7⟩ := hrun hn
  exact ⟨hn, h1, h2, h3, h4, h5, h6, h7, hconfig⟩

/-- What is gated outside RUN, with the phase. -/
def State.runGates (s : State) : Phase × Timer × List Nat × List Nat × List Nat × Nat × Nat × List Action :=
  (s.mpt.phase, s.tly.timer, s.ect.tallies, s.cur.tallies, s.rlc.tallies, s.brm.sweeps, s.rsq.sweeps, heldActions s)

/-- What is gated in CONFIG. -/
def State.configGates (s : State) : Timer × SweepStage × Timer × Link :=
  (s.osu.sweepTimer, s.osu.stage, s.ctb.timer, s.rlc.link)

/-- Work that leaves what the phases gate. -/
structure Leaves (s t : State) : Prop where
  run : t.runGates = s.runGates
  config : s.mpt.phase = .config → t.configGates = s.configGates

theorem Leaves.refl (s : State) : Leaves s s := ⟨rfl, fun _ => rfl⟩

theorem Leaves.phase (h : Leaves s t) : t.mpt.phase = s.mpt.phase := congrArg Prod.fst h.run

theorem Leaves.trans (h : Leaves s u) (k : Leaves u t) : Leaves s t :=
  ⟨k.run.trans h.run, fun hc => (k.config (h.phase.trans hc)).trans (h.config hc)⟩

/-- Work in WARMUP need leave only what is gated outside RUN. -/
theorem Leaves.of_notConfig (hc : s.mpt.phase ≠ .config) (h : t.runGates = s.runGates) : Leaves s t :=
  ⟨h, fun e => absurd e hc⟩

theorem Leaves.gated (h : Leaves s t) (g : GatedOutsideRun s) : GatedOutsideRun t := by
  have hrun := h.run
  simp only [State.runGates, Prod.mk.injEq] at hrun
  obtain ⟨hp, h1, h2, h3, h4, h5, h6, h7⟩ := hrun
  refine ⟨hp ▸ g.notRun, h1 ▸ g.tallyTimer, h2 ▸ g.ectTallies, h3 ▸ g.curTallies, h4 ▸ g.rlcTallies, h5 ▸ g.brmSweeps,
    h6 ▸ g.rsqSweeps, h7 ▸ g.held, fun hc => ?_⟩
  have hcfg := h.config (hp ▸ hc)
  simp only [State.configGates, Prod.mk.injEq] at hcfg
  obtain ⟨c1, c2, c3, c4⟩ := hcfg
  rw [c1, c2, c3, c4]
  exact g.inConfig (hp ▸ hc)

theorem GatedOutsideRun.inFlight (g : GatedOutsideRun s) : s.rsq.inFlight = none := by
  have h := g.held
  simp only [heldActions_eq, Rsq.held, List.append_eq_nil_iff] at h
  simpa using h.1.1

theorem GatedOutsideRun.lanes (g : GatedOutsideRun s) : s.rsq.urgent = [] ∧ s.rsq.standard = [] := by
  have h := g.held
  simp only [heldActions_eq, Rsq.held, List.append_eq_nil_iff] at h
  exact ⟨h.1.2, h.2⟩

/-- The answer of an outcome leaves what the phases gate. -/
def AnswerLeaves (s : State) (o : Host.Outcome State Fault Refusal) : Prop := ∀ t, o = .next t → Leaves s t

theorem leaves_unlessHeld {f : State → State} (h : Leaves s (f s)) : AnswerLeaves s (unlessHeld s f) := by
  rintro t ⟨⟩
  split
  · exact .refl s
  · exact h

/-! ### The port -/

theorem leaves_portCommand {code : Byte} {len : Nat} {r : Record} {work : State → State}
    (h : ∀ u, Leaves s u → Leaves s (work u)) : AnswerLeaves s (portCommand code len r s work) := by
  refine leaves_unlessHeld ?_
  dsimp only
  split
  · exact h _ ⟨rfl, fun _ => rfl⟩
  · exact ⟨rfl, fun _ => rfl⟩

theorem Leaves.reply (h : Leaves s u) (code : Byte) (st : Status) (d : List Byte) : Leaves s (u.reply code st d) :=
  h.trans ⟨rfl, fun _ => rfl⟩

theorem Leaves.refuse (h : Leaves s u) (code : Byte) (st : Status) : Leaves s (u.refuse code st) := h.reply _ _ _

theorem Leaves.load {α : Type} (h : Leaves s u) {code : Byte} {params : Option α} {write : State → α → State}
    (hw : ∀ p, Leaves u (write u p)) : Leaves s (u.load code params write) := by
  rcases u.load_cases code params write with ⟨-, e⟩ | ⟨-, -, e⟩ | ⟨p, -, -, e⟩ <;> rw [e]
  · exact h.refuse _ _
  · exact h.refuse _ _
  · exact (h.trans (hw p)).reply _ _ _

/-- The outlet commands are refused outside RUN. -/
theorem Leaves.outletCommand (h : Leaves s u) (hn : s.mpt.phase ≠ .run) (code : Byte) (index : Nat)
    (work : State → OutletIx → State) : Leaves s (u.outletCommand code index work) := by
  have hu : u.mpt.phase ≠ .run := h.phase ▸ hn
  rw [State.outletCommand, if_pos hu]
  exact h.refuse _ _

theorem Leaves.withPins (h : Leaves s u) (pins : Contacts) : Leaves s (u.withPins pins) := h.trans ⟨rfl, fun _ => rfl⟩

theorem execNoCommandTransaction_leaves (bytes : List Byte) (s : State) :
    AnswerLeaves s (execNoCommandTransaction bytes s) := leaves_unlessHeld ⟨rfl, fun _ => rfl⟩

theorem execCutShortRecord_leaves (code len : Byte) (given : List Byte) (s : State) :
    AnswerLeaves s (execCutShortRecord code len given s) := leaves_unlessHeld ⟨rfl, fun _ => rfl⟩

theorem execUnknownCommandCode_leaves (code : Byte) (r : Record) (s : State) :
    AnswerLeaves s (execUnknownCommandCode code r s) := leaves_unlessHeld ⟨rfl, fun _ => rfl⟩

theorem execReadStatus_leaves (r : Record) (s : State) : AnswerLeaves s (execReadStatus r s) :=
  leaves_portCommand fun _ h => h.trans ⟨rfl, fun _ => rfl⟩

theorem execReadTenant_leaves (r : Record) (s : State) : AnswerLeaves s (execReadTenant r s) :=
  leaves_portCommand fun _ h => by split <;> exact h.reply _ _ _

theorem execReadOutlet_leaves (r : Record) (s : State) : AnswerLeaves s (execReadOutlet r s) :=
  leaves_portCommand fun _ h => by split <;> exact h.reply _ _ _

theorem execReadBranch_leaves (r : Record) (s : State) : AnswerLeaves s (execReadBranch r s) :=
  leaves_portCommand fun _ h => by split <;> exact h.reply _ _ _

theorem execReadContribution_leaves (r : Record) (s : State) : AnswerLeaves s (execReadContribution r s) :=
  leaves_portCommand fun _ h => h.trans ⟨rfl, fun _ => rfl⟩

theorem execSetCursor_leaves (r : Record) (s : State) : AnswerLeaves s (execSetCursor r s) :=
  leaves_portCommand fun _ h => by split <;> exact h.trans ⟨rfl, fun _ => rfl⟩

theorem execReadNotices_leaves (r : Record) (s : State) : AnswerLeaves s (execReadNotices r s) :=
  leaves_portCommand fun _ h => by dsimp only; split <;> exact h.trans ⟨rfl, fun _ => rfl⟩

theorem execLoadStation_leaves (r : Record) (s : State) : AnswerLeaves s (execLoadStation r s) :=
  leaves_portCommand fun _ h => h.load fun _ => ⟨rfl, fun _ => rfl⟩

theorem execLoadTenant_leaves (r : Record) (s : State) : AnswerLeaves s (execLoadTenant r s) :=
  leaves_portCommand fun _ h => h.load fun _ => ⟨rfl, fun _ => rfl⟩

theorem execLoadCalibration_leaves (r : Record) (s : State) : AnswerLeaves s (execLoadCalibration r s) :=
  leaves_portCommand fun _ h => h.load fun _ => ⟨rfl, fun _ => rfl⟩

theorem execLoadBranch_leaves (r : Record) (s : State) : AnswerLeaves s (execLoadBranch r s) :=
  leaves_portCommand fun _ h => h.load fun _ => ⟨rfl, fun _ => rfl⟩

theorem execLoadFixed_leaves (r : Record) (s : State) : AnswerLeaves s (execLoadFixed r s) :=
  leaves_portCommand fun _ h => h.load fun _ => ⟨rfl, fun _ => rfl⟩

theorem execOutletOpen_leaves (g : GatedOutsideRun s) (r : Record) (pins : Contacts) :
    AnswerLeaves s (execOutletOpen r pins s) :=
  leaves_portCommand fun _ h => (h.withPins pins).outletCommand g.notRun _ _ _

theorem execOutletClose_leaves (g : GatedOutsideRun s) (r : Record) (pins : Contacts) :
    AnswerLeaves s (execOutletClose r pins s) :=
  leaves_portCommand fun _ h => (h.withPins pins).outletCommand g.notRun _ _ _

theorem execRearm_leaves (g : GatedOutsideRun s) (r : Record) (pins : Contacts) :
    AnswerLeaves s (execRearm r pins s) :=
  leaves_portCommand fun _ h => (h.withPins pins).outletCommand g.notRun _ _ _

theorem execSetBand_leaves (g : GatedOutsideRun s) (r : Record) : AnswerLeaves s (execSetBand r s) :=
  leaves_portCommand fun u h => by
    have hu : u.mpt.phase ≠ .run := h.phase ▸ g.notRun
    rw [if_pos (.inl hu)]
    exact h.refuse _ _

theorem execClearCounters_leaves (g : GatedOutsideRun s) (r : Record) : AnswerLeaves s (execClearCounters r s) :=
  leaves_portCommand fun u h => by
    have hu : u.mpt.phase ≠ .run := h.phase ▸ g.notRun
    rw [if_pos hu]
    exact h.refuse _ _

/-! ### Sweeps -/

theorem execSettleCountdownEnd_leaves (o : OutletIx) (s : State) : AnswerLeaves s (execSettleCountdownEnd o s) :=
  leaves_unlessHeld (by split <;> exact ⟨rfl, fun _ => rfl⟩)

theorem execSettleTimerExpiry_leaves (k : SlotIx) (s : State) : AnswerLeaves s (execSettleTimerExpiry k s) :=
  leaves_unlessHeld ⟨rfl, fun _ => rfl⟩

@[simp] theorem State.answered_runGates (s : State) (o : OutletIx) : (s.answered o).runGates = s.runGates := by
  unfold State.answered; dsimp only; split <;> rfl

@[simp] theorem State.missed_runGates (s : State) (o : OutletIx) : (s.missed o).runGates = s.runGates := by
  unfold State.missed; dsimp only; split
  · rfl
  · split <;> rfl

@[simp] theorem State.takeCounts_runGates (s : State) (o : OutletIx) (r : FrontEndReply) :
    (s.takeCounts o r).runGates = s.runGates := by
  unfold State.takeCounts; dsimp only; split <;> rfl

@[simp] theorem State.dispose_runGates (s : State) (o : OutletIx) (outcome : Option FrontEndReply) :
    (s.dispose o outcome).runGates = s.runGates := by
  cases outcome with
  | none => exact s.missed_runGates o
  | some r => exact ((s.answered o).takeCounts_runGates o r).trans (s.answered_runGates o)

@[simp] theorem State.startSweep_runGates (s : State) : s.startSweep.runGates = s.runGates := by
  unfold State.startSweep; dsimp only; split <;> rfl

theorem State.handSweep_runGates (h : s.mpt.phase ≠ .run) : s.handSweep.runGates = s.runGates := by
  unfold State.handSweep
  split
  · rfl
  · rfl
  · exact absurd ‹_› h

theorem State.completeSweep_runGates (h : s.mpt.phase ≠ .run) : s.completeSweep.runGates = s.runGates := by
  have handed : ({ s with osu := { s.osu with stage := .idle } } : State).handSweep.runGates = s.runGates :=
    State.handSweep_runGates (s := { s with osu := { s.osu with stage := .idle } }) h
  unfold State.completeSweep
  dsimp only
  split
  · rw [State.startSweep_runGates, handed]
  · exact handed

theorem State.visit_runGates (h : s.mpt.phase ≠ .run) (outcome : Option FrontEndReply) :
    (s.visit outcome).runGates = s.runGates := by
  have disposed := s.dispose_runGates s.osu.scan outcome
  have hp : (s.dispose s.osu.scan outcome).mpt.phase ≠ .run := fun e => h ((congrArg Prod.fst disposed).symm.trans e)
  unfold State.visit State.endVisit
  split
  · exact disposed
  · exact (State.completeSweep_runGates hp).trans disposed

@[simp] theorem State.sensorFailed_runGates (s : State) : s.sensorFailed.runGates = s.runGates := by
  unfold State.sensorFailed; split <;> rfl

/-- In CONFIG no sweep runs, so a sweep's events are taken in WARMUP alone. -/
theorem GatedOutsideRun.notConfig_of_stage (g : GatedOutsideRun s) (h : s.osu.stage ≠ .idle) :
    s.mpt.phase ≠ .config := fun hc => h (g.inConfig hc).2.1

theorem execSweepTimerExpiry_leaves (g : GatedOutsideRun s) : AnswerLeaves s (execSweepTimerExpiry s) := by
  refine leaves_unlessHeld ?_
  split
  · exact .refl s
  · next n ht =>
    refine .of_notConfig (fun hc => by simp [(g.inConfig hc).1] at ht) ?_
    split
    · exact s.startSweep_runGates
    · rfl
    · rfl

theorem execTempReadEnd_leaves (g : GatedOutsideRun s) (result : TempResult) :
    AnswerLeaves s (execTempReadEnd result s) := by
  refine leaves_unlessHeld ?_
  split
  · next hs =>
    refine .of_notConfig (g.notConfig_of_stage (by simp [hs])) ?_
    split
    · exact s.sensorFailed_runGates
    · split
      · rfl
      · exact s.sensorFailed_runGates
  · exact .refl s
  · exact .refl s

theorem execTempReadTimeout_leaves (g : GatedOutsideRun s) : AnswerLeaves s (execTempReadTimeout s) := by
  refine leaves_unlessHeld ?_
  split
  · next hs => exact .of_notConfig (g.notConfig_of_stage (by simp [hs])) s.sensorFailed_runGates
  · exact .refl s
  · exact .refl s

theorem execReadingReply_leaves (g : GatedOutsideRun s) (r : FrontEndReply) :
    AnswerLeaves s (execReadingReply r s) := by
  refine leaves_unlessHeld ?_
  split
  · next hs => exact .of_notConfig (g.notConfig_of_stage (by simp [hs])) (State.visit_runGates g.notRun _)
  · exact .refl s
  · exact .refl s

theorem execReadingTimeout_leaves (g : GatedOutsideRun s) : AnswerLeaves s (execReadingTimeout s) := by
  refine leaves_unlessHeld ?_
  split
  · next hs => exact .of_notConfig (g.notConfig_of_stage (by simp [hs])) (State.visit_runGates g.notRun _)
  · exact .refl s
  · exact .refl s

/-! ### The Contribution Table and the row link -/

@[simp] theorem State.checkMismatch_runGates (s : State) (i : PlaceIx) (e : DynEntry) :
    (s.checkMismatch i e).runGates = s.runGates := by
  unfold State.checkMismatch
  split
  · rfl
  · split
    · rfl
    · split <;> rfl

@[simp] theorem State.learn_runGates (s : State) (station stamp : Nat) (k : SlotIx) (e : SummaryEntry) :
    (s.learn station stamp k e).runGates = s.runGates := by
  unfold State.learn
  split
  · rfl
  · split
    · exact State.checkMismatch_runGates _ _ _
    · split
      · exact State.checkMismatch_runGates _ _ _
      · unfold State.refuseCreation
        split <;> rfl

@[simp] theorem State.learnSummary_runGates (s : State) (station stamp : Nat) (l : List SummaryEntry) :
    (s.learnSummary station stamp l).runGates = s.runGates :=
  foldl_fixes (g := State.runGates) (fun u e => by split <;> simp) l s

@[simp] theorem State.ageEntry_runGates (s : State) (i : PlaceIx) : (s.ageEntry i).runGates = s.runGates := by
  unfold State.ageEntry
  split
  · rfl
  · split <;> rfl

theorem execAgingTimerExpiry_leaves (g : GatedOutsideRun s) : AnswerLeaves s (execAgingTimerExpiry s) := by
  refine leaves_unlessHeld ?_
  split
  · exact .refl s
  · next n ht =>
    refine .of_notConfig (fun hc => by simp [(g.inConfig hc).2.2.1] at ht) ?_
    exact foldl_fixes (g := State.runGates) State.ageEntry_runGates allPlaces
      { s with ctb := { s.ctb with timer := some s.agingTicks } }

theorem execPendingAdjustmentExpiry_leaves (i : PlaceIx) (s : State) :
    AnswerLeaves s (execPendingAdjustmentExpiry i s) := by
  refine leaves_unlessHeld ?_
  split
  · exact ⟨rfl, fun _ => rfl⟩
  · exact .refl s

theorem execCtbNote_leaves (s : State) : AnswerLeaves s (execCtbNote s) := by
  refine leaves_unlessHeld ?_
  split
  · exact .refl s
  · unfold State.applyNote
    split
    · exact ⟨rfl, fun _ => rfl⟩
    · split <;> exact ⟨rfl, fun _ => rfl⟩

theorem execCurNote_leaves (s : State) : AnswerLeaves s (execCurNote s) := by
  refine leaves_unlessHeld ?_
  split
  · exact .refl s
  · dsimp only
    split <;> exact ⟨rfl, fun _ => rfl⟩

/-- A change of the row link that leaves its state and the completions that wait with it. -/
theorem Leaves.setRlc (h : Leaves s u) {r : Rlc} (hl : r.link = u.rlc.link) (ht : r.tallies = u.rlc.tallies) :
    Leaves s { u with rlc := r } :=
  h.trans ⟨by simp [State.runGates, heldActions, ht], fun _ => by simp [State.configGates, hl]⟩

theorem Leaves.raise (h : Leaves s u) (b : NoticeBody) : Leaves s (u.raise b) := h.trans ⟨rfl, fun _ => rfl⟩

theorem Rlc.takeHead_frame (r : Rlc) : r.takeHead.link = r.link ∧ r.takeHead.tallies = r.tallies := by
  rcases r.takeHead_cases with ⟨-, -, e⟩ | ⟨f, rest, -, -, e⟩ | ⟨f, rest, -, -, e⟩ <;> rw [e] <;> exact ⟨rfl, rfl⟩

theorem Rlc.putBack_frame (r : Rlc) (f : TxFrame) :
    (r.putBack f).link = r.link ∧ (r.putBack f).tallies = r.tallies := by
  unfold Rlc.putBack
  split
  · exact ⟨rfl, rfl⟩
  · split <;> exact ⟨rfl, rfl⟩
  · exact ⟨rfl, rfl⟩

theorem Rlc.failed_frame (r : Rlc) (f : TxFrame) :
    (r.failed f).link = r.link ∧ (r.failed f).tallies = r.tallies := by
  unfold Rlc.failed
  dsimp only
  split
  · exact Rlc.putBack_frame _ _
  · exact ⟨rfl, rfl⟩

theorem Rlc.allowTry_frame (r : Rlc) : r.allowTry.link = r.link ∧ r.allowTry.tallies = r.tallies := by
  rcases r.allowTry_cases with ⟨-, e⟩ | ⟨-, e⟩ <;> rw [e] <;> exact ⟨rfl, rfl⟩

theorem execContendOnIdleLine_leaves (s : State) : AnswerLeaves s (execContendOnIdleLine s) := by
  refine leaves_unlessHeld ?_
  split
  · exact (Leaves.refl s).setRlc s.rlc.takeHead_frame.1 s.rlc.takeHead_frame.2
  · exact .refl s

theorem execArbitrationLost_leaves (s : State) : AnswerLeaves s (execArbitrationLost s) := by
  refine leaves_unlessHeld ?_
  split
  · exact .refl s
  · exact (Leaves.refl s).setRlc (Rlc.putBack_frame _ _).1 (Rlc.putBack_frame _ _).2

theorem execTransmitSuccess_leaves (g : GatedOutsideRun s) : AnswerLeaves s (execTransmitSuccess s) := by
  refine leaves_unlessHeld ?_
  split
  · exact .refl s
  · dsimp only
    split
    · next hd => exact .of_notConfig (fun hc => by simp [(g.inConfig hc).2.2.2] at hd) rfl
    · exact ⟨rfl, fun _ => rfl⟩

theorem execTransmitFailure_leaves (g : GatedOutsideRun s) : AnswerLeaves s (execTransmitFailure s) := by
  refine leaves_unlessHeld ?_
  split
  · exact .refl s
  · next f _ =>
    obtain ⟨hl, ht⟩ := s.rlc.failed_frame f
    have failed := (Leaves.refl s).setRlc hl ht
    dsimp only
    split
    · next ha =>
      refine .of_notConfig (fun hc => ?_) failed.run
      rw [hl, (g.inConfig hc).2.2.2] at ha
      exact absurd ha.1 (by decide)
    · exact failed

theorem execRetryTimerExpiry_leaves (s : State) : AnswerLeaves s (execRetryTimerExpiry s) := by
  refine leaves_unlessHeld ?_
  split
  · exact .refl s
  · exact (Leaves.refl s).setRlc s.rlc.allowTry_frame.1 s.rlc.allowTry_frame.2

@[simp] theorem State.handFrame_runGates (s : State) (station : Nat) (c : FrameContent) :
    (s.handFrame station c).runGates = s.runGates := by
  unfold State.handFrame
  split
  · split <;> rfl
  · split
    · rfl
    · exact State.learnSummary_runGates _ _ _ _
    · split <;> rfl

theorem execFrameReceived_leaves (g : GatedOutsideRun s) (f : LineFrame) :
    AnswerLeaves s (execFrameReceived f s) := by
  refine leaves_unlessHeld ?_
  split
  · exact .refl s
  · next hoff =>
    refine .of_notConfig (fun hc => hoff (g.inConfig hc).2.2.2) ?_
    split
    · rfl
    · split
      · rfl
      · split
        · rfl
        · exact State.handFrame_runGates _ _ _

/-! ### Relays -/

/-- With nothing held the choice does nothing. -/
theorem State.choose_of_empty (hu : s.rsq.urgent = []) (hs : s.rsq.standard = []) : s.choose = s := by
  simp [State.choose, State.chooseAt, chooseUpTo, hu, hs]

theorem Leaves.choose (h : Leaves s u) (g : GatedOutsideRun s) : Leaves s u.choose := by
  obtain ⟨hu, hs⟩ := (h.gated g).lanes
  rwa [State.choose_of_empty hu hs]

theorem execStaggerTimerExpiry_leaves (g : GatedOutsideRun s) (pins : Contacts) :
    AnswerLeaves s (execStaggerTimerExpiry pins s) := by
  refine leaves_unlessHeld ?_
  dsimp only
  split
  · refine Leaves.choose ⟨rfl, fun _ => rfl⟩ g
  · exact ⟨rfl, fun _ => rfl⟩

theorem execFeedbackTargetSensed_leaves (g : GatedOutsideRun s) (pins : Contacts) :
    AnswerLeaves s (execFeedbackTargetSensed pins s) := by
  refine leaves_unlessHeld ?_
  simp only [g.inFlight]
  exact (Leaves.refl s).withPins pins

theorem execCoilPulseEnd_leaves (g : GatedOutsideRun s) (pins : Contacts) :
    AnswerLeaves s (execCoilPulseEnd pins s) := by
  refine leaves_unlessHeld ?_
  simp only [State.withPins, g.inFlight]
  exact (Leaves.refl s).withPins pins

theorem execFeedbackWindowTimeout_leaves (g : GatedOutsideRun s) (pins : Contacts) :
    AnswerLeaves s (execFeedbackWindowTimeout pins s) := by
  refine leaves_unlessHeld ?_
  simp only [State.withPins, g.inFlight]
  exact (Leaves.refl s).withPins pins

theorem execPulseEndAdoption_leaves (o : OutletIx) (pins : Contacts) (s : State) :
    AnswerLeaves s (execPulseEndAdoption o pins s) := by
  refine leaves_unlessHeld ?_
  dsimp only
  split <;> exact ⟨rfl, fun _ => rfl⟩

theorem execMismatchCheck_leaves (g : GatedOutsideRun s) (pins : Contacts) :
    AnswerLeaves s (execMismatchCheck pins s) := by
  refine leaves_unlessHeld ?_
  simp only [State.withPins, g.rsqSweeps, if_true]
  exact (Leaves.refl s).withPins pins

theorem execBrmSweepCompletion_leaves (g : GatedOutsideRun s) (pins : Contacts) :
    AnswerLeaves s (execBrmSweepCompletion pins s) := by
  refine leaves_unlessHeld ?_
  simp only [State.withPins, g.brmSweeps, if_true]
  exact (Leaves.refl s).withPins pins

theorem execCurTallyCompletion_leaves (g : GatedOutsideRun s) (pins : Contacts) :
    AnswerLeaves s (execCurTallyCompletion pins s) := by
  refine leaves_unlessHeld ?_
  simp only [State.withPins, g.curTallies]
  exact (Leaves.refl s).withPins pins

theorem execTallyTimerExpiry_leaves (g : GatedOutsideRun s) : AnswerLeaves s (execTallyTimerExpiry s) := by
  refine leaves_unlessHeld ?_
  simp only [g.tallyTimer]
  exact .refl s

theorem execEctTallyCompletion_leaves (g : GatedOutsideRun s) : AnswerLeaves s (execEctTallyCompletion s) := by
  refine leaves_unlessHeld ?_
  simp only [g.ectTallies]
  exact .refl s

theorem execRlcTallyCompletion_leaves (g : GatedOutsideRun s) : AnswerLeaves s (execRlcTallyCompletion s) := by
  refine leaves_unlessHeld ?_
  simp only [g.rlcTallies]
  exact .refl s

theorem execResetPinAssert_leaves (g : GatedOutsideRun s) : AnswerLeaves s (execResetPinAssert s) := by
  rintro t ⟨⟩
  refine ⟨?_, fun hc => ?_⟩
  · simp [State.runGates, g.rlcTallies, g.rsqSweeps, g.held, heldActions_eq, Rsq.held, Rsq.reset, Rlc.reset]
  · obtain ⟨h1, h2, h3, h4⟩ := g.inConfig hc
    simp [State.configGates, h1, h2, h4, Osu.reset, Rlc.reset]

theorem State.idle_leaves (g : GatedOutsideRun s) : Leaves s s.idle := by
  unfold State.idle
  split
  · exact .refl s
  · refine ⟨?_, fun hc => ?_⟩
    · have held : heldActions s.tick = heldActions s := Rsq.held_tick s.rsq _
      simp only [State.runGates, held]
      simp [State.tick, g.tallyTimer, Timer.tick]
    · obtain ⟨h1, h2, h3, h4⟩ := g.inConfig hc
      simp [State.configGates, State.tick, h1, h2, h3, Timer.tick, SweepStage.tick]

/-! ### Every step -/

/-- Outside RUN a command other than a change of phase leaves what the phases gate. -/
theorem exec_leaves (g : GatedOutsideRun s) (c : Instr) (hc : ¬ Instr.ChangesPhaseOrRank c) :
    AnswerLeaves s (exec c s) := by
  cases c with
  | powerOn => exact absurd trivial hc
  | resetPinAssert => exact execResetPinAssert_leaves g
  | resetPinRelease => exact absurd trivial hc
  | noCommandTransaction bytes => exact execNoCommandTransaction_leaves bytes s
  | cutShortRecord code len given => exact execCutShortRecord_leaves code len given s
  | unknownCommandCode code r => exact execUnknownCommandCode_leaves code r s
  | readStatus r => exact execReadStatus_leaves r s
  | readTenant r => exact execReadTenant_leaves r s
  | readOutlet r => exact execReadOutlet_leaves r s
  | readBranch r => exact execReadBranch_leaves r s
  | readContribution r => exact execReadContribution_leaves r s
  | setCursor r => exact execSetCursor_leaves r s
  | readNotices r => exact execReadNotices_leaves r s
  | loadStation r => exact execLoadStation_leaves r s
  | loadTenant r => exact execLoadTenant_leaves r s
  | loadOutlet r => exact absurd trivial hc
  | loadCalibration r => exact execLoadCalibration_leaves r s
  | loadBranch r => exact execLoadBranch_leaves r s
  | loadFixed r => exact execLoadFixed_leaves r s
  | start r pins => exact absurd trivial hc
  | restart r => exact absurd trivial hc
  | outletOpen r pins => exact execOutletOpen_leaves g r pins
  | outletClose r pins => exact execOutletClose_leaves g r pins
  | rearm r pins => exact execRearm_leaves g r pins
  | setBand r => exact execSetBand_leaves g r
  | clearCounters r => exact execClearCounters_leaves g r
  | sweepTimerExpiry => exact execSweepTimerExpiry_leaves g
  | tempReadEnd result => exact execTempReadEnd_leaves g result
  | tempReadTimeout => exact execTempReadTimeout_leaves g
  | readingReply reply => exact execReadingReply_leaves g reply
  | readingTimeout => exact execReadingTimeout_leaves g
  | lateReply reply =>
    rintro t ⟨⟩
    exact .refl s
  | settleCountdownEnd o => exact execSettleCountdownEnd_leaves o s
  | enterRun => exact absurd trivial hc
  | tallyTimerExpiry => exact execTallyTimerExpiry_leaves g
  | ectTallyCompletion => exact execEctTallyCompletion_leaves g
  | curTallyCompletion pins => exact execCurTallyCompletion_leaves g pins
  | rlcTallyCompletion => exact execRlcTallyCompletion_leaves g
  | brmSweepCompletion pins => exact execBrmSweepCompletion_leaves g pins
  | mismatchCheck pins => exact execMismatchCheck_leaves g pins
  | agingTimerExpiry => exact execAgingTimerExpiry_leaves g
  | pendingAdjustmentExpiry i => exact execPendingAdjustmentExpiry_leaves i s
  | settleTimerExpiry k => exact execSettleTimerExpiry_leaves k s
  | retryTimerExpiry => exact execRetryTimerExpiry_leaves s
  | staggerTimerExpiry pins => exact execStaggerTimerExpiry_leaves g pins
  | feedbackTargetSensed pins => exact execFeedbackTargetSensed_leaves g pins
  | coilPulseEnd pins => exact execCoilPulseEnd_leaves g pins
  | feedbackWindowTimeout pins => exact execFeedbackWindowTimeout_leaves g pins
  | pulseEndAdoption o pins => exact execPulseEndAdoption_leaves o pins s
  | contendOnIdleLine => exact execContendOnIdleLine_leaves s
  | arbitrationLost => exact execArbitrationLost_leaves s
  | transmitSuccess => exact execTransmitSuccess_leaves g
  | transmitFailure => exact execTransmitFailure_leaves g
  | frameReceived frame => exact execFrameReceived_leaves g frame
  | ctbNote => exact execCtbNote_leaves s
  | curNote => exact execCurNote_leaves s

/-- Work within a phase that leaves, outside RUN, what the phases gate. -/
theorem phaseGates_of_works (p : PhaseGates s) (w : Works s t) (l : GatedOutsideRun s → Leaves s t) : PhaseGates t := by
  by_cases hr : s.mpt.phase = .run
  · exact phaseGates_of_run (w.phase.trans hr) (w.unasked p.2.2)
  · have g := gated_of_phaseGates p hr
    exact phaseGates_of_gated ((l g).gated g)

/-- The gates of a part in CONFIG with every block at its reset value. -/
theorem phaseGates_of_resetValues (hm : s.mpt = Mpt.reset) (ht : s.tly.timer = none) (he : s.ect.tallies = [])
    (hcur : s.cur.tallies = []) (hr : s.rlc = Rlc.reset) (hb : s.brm.sweeps = 0) (hq : s.rsq = Rsq.reset)
    (ho : s.osu = Osu.reset) (hc : s.ctb.timer = none) : PhaseGates s :=
  phaseGates_of_gated
    { notRun := by rw [hm]; decide
      tallyTimer := ht, ectTallies := he, curTallies := hcur
      rlcTallies := by rw [hr]; rfl
      brmSweeps := hb
      rsqSweeps := by rw [hq]; rfl
      held := by rw [heldActions_eq, hq]; rfl
      inConfig := fun _ => by rw [ho, hr]; exact ⟨rfl, rfl, hc, rfl⟩ }

theorem State.poweredOn_phaseGates (s : State) (held : Bool) : PhaseGates (s.poweredOn held) :=
  phaseGates_of_resetValues rfl rfl rfl rfl rfl rfl rfl rfl rfl

theorem State.restarted_phaseGates (s : State) : PhaseGates s.restarted := by
  rw [State.restarted_eq]
  unfold State.leavePulse
  have kept : PhaseGates s.configKept := phaseGates_of_resetValues rfl rfl rfl rfl rfl rfl rfl rfl rfl
  split
  · split
    · exact phaseGates_of_resetValues rfl rfl rfl rfl rfl rfl rfl rfl rfl
    · exact kept
  · exact kept

theorem phaseGates_reply (h : PhaseGates s) (code : Byte) (st : Status) (d : List Byte) :
    PhaseGates (s.reply code st d) :=
  phaseGates_of_works h ((Works.refl s).reply _ _ _) fun _ => (Leaves.refl s).reply _ _ _

/-- What is gated outside RUN is left by the entry into WARMUP. -/
theorem State.enterWarmup_runGates (s : State) :
    s.enterWarmup.runGates = ({ s with mpt := { s.mpt with phase := .warmup } } : State).runGates := by
  have adopted := foldl_fixes (g := State.runGates) (f := State.adoptOutlet)
    (fun u o => by unfold State.adoptOutlet; split <;> rfl) allOutlets
    { s with mpt := { s.mpt with phase := .warmup } }
  unfold State.enterWarmup
  dsimp only
  generalize allOutlets.foldl State.adoptOutlet _ = v at adopted ⊢
  rw [State.startSweep_runGates, ← adopted]
  rfl

theorem GatedOutsideRun.enterWarmup (g : GatedOutsideRun s) : PhaseGates s.enterWarmup := by
  have h := s.enterWarmup_runGates
  simp only [State.runGates, Prod.mk.injEq] at h
  obtain ⟨hp, h1, h2, h3, h4, h5, h6, h7⟩ := h
  exact phaseGates_of_gated
    { notRun := by rw [hp]; decide
      tallyTimer := h1.trans g.tallyTimer, ectTallies := h2.trans g.ectTallies, curTallies := h3.trans g.curTallies
      rlcTallies := h4.trans g.rlcTallies, brmSweeps := h5.trans g.brmSweeps, rsqSweeps := h6.trans g.rsqSweeps
      held := h7.trans g.held
      inConfig := fun hc => by rw [hp] at hc; cases hc }

theorem phaseGates_portCommand {code : Byte} {len : Nat} {r : Record} {work : State → State} (p : PhaseGates s)
    (h : ∀ u, PhaseGates u → PhaseGates (work u)) (ht : portCommand code len r s work = .next t) : PhaseGates t := by
  cases ht
  split
  · exact p
  · have ended : PhaseGates (s.endTransaction (2 + r.params.length + r.trailing.length)) :=
      phaseGates_of_works p ((Works.refl s).endTransaction _) fun _ => ⟨rfl, fun _ => rfl⟩
    dsimp only
    split
    · exact h _ ended
    · exact phaseGates_reply ended _ _ _

theorem execStart_phaseGates (p : PhaseGates s) (r : Record) (pins : Contacts) (h : execStart r pins s = .next t) :
    PhaseGates t := by
  refine phaseGates_portCommand p (fun u pu => ?_) h
  split
  · exact phaseGates_reply pu _ _ _
  · next hc =>
    split
    · exact phaseGates_reply pu _ _ _
    · have g : GatedOutsideRun u := gated_of_phaseGates pu (by simp at hc; simp [hc])
      have presented : GatedOutsideRun (u.withPins pins) := ((Leaves.refl u).withPins pins).gated g
      exact phaseGates_reply presented.enterWarmup _ _ _

theorem execLoadOutlet_phaseGates (p : PhaseGates s) (r : Record) (h : execLoadOutlet r s = .next t) :
    PhaseGates t := by
  refine phaseGates_portCommand p (fun u pu => ?_) h
  rcases u.load_cases 18 (outletParams r) _ with ⟨-, e⟩ | ⟨-, -, e⟩ | ⟨q, hc, -, e⟩ <;> rw [e]
  · exact phaseGates_reply pu _ _ _
  · exact phaseGates_reply pu _ _ _
  · have g : GatedOutsideRun u := gated_of_phaseGates pu (by simp [hc])
    have written : Leaves u (u.setOutlet q.outlet
        { u.outlet q.outlet with slot := q.slot, cls := q.cls, rank := q.rank }) := ⟨rfl, fun _ => rfl⟩
    exact phaseGates_reply (phaseGates_of_gated (written.gated g)) _ _ _

theorem execEnterRun_phaseGates (p : PhaseGates s) (h : execEnterRun s = .next t) : PhaseGates t := by
  cases h
  split
  · exact p
  · dsimp only
    split
    · next hw =>
      have g : GatedOutsideRun s := gated_of_phaseGates p (by simp [hw.1])
      have entered := foldl_fixes (g := fun u : State => (u.mpt, u.rsq)) (f := State.enterSlot)
        (fun u k => by
          unfold State.enterSlot State.storeSlot
          split
          · dsimp only
            split <;> rfl
          · rfl) allSlots { s with mpt := { s.mpt with phase := .run } }
      generalize allSlots.foldl State.enterSlot _ = v at entered ⊢
      obtain ⟨hm, hq⟩ := Prod.mk.inj entered
      have held : heldActions v = [] := by rw [heldActions_eq, hq]; exact g.held
      exact phaseGates_of_run (congrArg Mpt.phase hm) fun a (ha : a ∈ heldActions v) => by simp [held] at ha
    · exact p

theorem exec_phaseGates (c : Instr) (p : PhaseGates s) (h : exec c s = .next t) : PhaseGates t := by
  by_cases hc : Instr.ChangesPhaseOrRank c
  · unfold Instr.ChangesPhaseOrRank at hc
    split at hc
    · cases h
      exact s.poweredOn_phaseGates _
    · cases h
      exact s.poweredOn_phaseGates _
    · exact execStart_phaseGates p _ _ h
    · exact phaseGates_portCommand p (fun u _ => u.restarted_phaseGates) h
    · exact execEnterRun_phaseGates p h
    · exact execLoadOutlet_phaseGates p _ h
    · exact hc.elim
  · exact phaseGates_of_works p (exec_answers c hc s t h) fun g => exec_leaves g c hc t h

/-- Settles O60: in RUN nothing is gated and no request asks for a rank-15 outlet; outside RUN no command but a change of
phase touches what is gated. -/
theorem stepKeepsPhaseGates : Obligations.StepKeepsPhaseGates := by
  intro s t h p
  unfold step at h
  split at h
  · cases h
    exact phaseGates_of_works p (Works.idle s) State.idle_leaves
  · next c rest _ =>
    have taken : PhaseGates { s with pending := rest } := p
    exact exec_phaseGates c taken h

end Sys2Proof.Machine
end

section
/-! Requests to the sequencer: an outlet's pending action, the lanes, and the notices, each operation by its result. -/

namespace Sys2Proof.Machine

open Sys2Proof.Safety Sys2Proof.Claims

variable {s : State} {o : OutletIx}

/-! ### Notices -/

theorem NoticeBody.number_eq (b : NoticeBody) : b.number = kindNumber b := by cases b <;> rfl

/-- Taking a notice is what R172 says of the queue. -/
theorem Nq.take_eq (st : Station) (stamp : Nat) (q : Nq) (b : NoticeBody) :
    q.take (st.enables b) ⟨stamp, b⟩ = queuedNotice st stamp q b := by
  have he : st.enables b = st.kindMask.getLsbD (kindNumber b - 1) := by rw [Station.enables, NoticeBody.number_eq]
  unfold queuedNotice
  rcases q.take_cases (st.enables b) ⟨stamp, b⟩ with ⟨hf, e⟩ | ⟨ht, hl, e⟩ | ⟨ht, hl, e⟩ <;> rw [e]
  · rw [if_pos (he ▸ hf)]
  · rw [if_neg (by simp [← he, ht]), if_neg (by omega)]
  · rw [if_neg (by simp [← he, ht]), if_pos hl]

theorem State.raiseAt_eq (s : State) (stamp : Nat) (b : NoticeBody) :
    s.raiseAt stamp b = { s with nq := raisedAll s.station stamp [b] s.nq } := by
  rw [State.raiseAt, Nq.take_eq]
  rfl

theorem State.raise_eq (s : State) (b : NoticeBody) : s.raise b = { s with nq := raised s [b] } := s.raiseAt_eq _ b

/-! ### An outlet's pending action -/

theorem Rsq.queuedFor_eq_none_iff {q : Rsq} :
    q.queuedFor o = none ↔ (∀ a ∈ q.urgent, a.outlet ≠ o) ∧ ∀ a ∈ q.standard, a.outlet ≠ o := by
  simp only [Rsq.queuedFor, List.find?_eq_none, List.mem_append, beq_iff_eq]
  exact ⟨fun h => ⟨fun a ha => h a (.inl ha), fun a ha => h a (.inr ha)⟩, fun h a => Or.rec (h.1 a) (h.2 a)⟩

theorem Rsq.queuedFor_some {q : Rsq} {a : Action} (h : q.queuedFor o = some a) :
    a.outlet = o ∧ (a ∈ q.urgent ∨ a ∈ q.standard) :=
  ⟨by simpa using List.find?_some h, List.mem_append.mp (List.mem_of_find?_eq_some h)⟩

theorem Rsq.inFlightFor_some {q : Rsq} {a : Action} (h : q.inFlightFor o = some a) :
    a.outlet = o ∧ ∃ f, q.inFlight = some f ∧ f.action = a := by
  unfold Rsq.inFlightFor at h
  split at h
  · next f hf =>
    split at h
    · next ho => exact ⟨Option.some.inj h ▸ ho, f, hf, Option.some.inj h⟩
    · cases h
  · cases h

theorem Rsq.inFlightFor_eq_none {q : Rsq} (h : ∀ f, q.inFlight = some f → f.action.outlet ≠ o) :
    q.inFlightFor o = none := by
  unfold Rsq.inFlightFor
  split
  · next f hf => rw [if_neg (h f hf)]
  · rfl

theorem State.pendingFor_inFlight {f : InFlight} (hf : s.rsq.inFlight = some f) (ho : f.action.outlet = o) :
    s.pendingFor o = some ⟨f.action, true⟩ := by
  simp [State.pendingFor, Rsq.inFlightFor, hf, ho]

/-- With nothing pending, nothing is queued and nothing in flight. -/
theorem State.pendingFor_none (h : s.pendingFor o = none) :
    s.rsq.inFlightFor o = none ∧ s.rsq.queuedFor o = none := by
  unfold State.pendingFor at h
  split at h
  · cases h
  · next hf => exact ⟨hf, by simpa using h⟩

theorem State.pendingFor_queued {a : Action} (h : s.pendingFor o = some ⟨a, false⟩) :
    s.rsq.inFlightFor o = none ∧ s.rsq.queuedFor o = some a := by
  unfold State.pendingFor at h
  split at h
  · simp at h
  · next hf => exact ⟨hf, by simpa using h⟩

theorem State.pendingFor_outlet {p : Pending} (h : s.pendingFor o = some p) : p.action.outlet = o := by
  unfold State.pendingFor at h
  split at h
  · next a ha => exact Option.some.inj h ▸ (Rsq.inFlightFor_some ha).1
  · obtain ⟨a, ha, rfl⟩ := Option.map_eq_some_iff.mp h
    exact (Rsq.queuedFor_some ha).1

/-- Where each outlet is the subject of one action, the one queued is the one found. -/
theorem Rsq.queuedFor_of_mem {q : Rsq} {a : Action} (hn : (q.held.map (·.outlet)).Nodup)
    (ha : a ∈ q.urgent ∨ a ∈ q.standard) : q.inFlightFor a.outlet = none ∧ q.queuedFor a.outlet = some a := by
  have hmem : a ∈ q.urgent ++ q.standard := List.mem_append.mpr ha
  rw [Rsq.held, List.append_assoc, List.map_append, List.nodup_append] at hn
  obtain ⟨-, hq, hd⟩ := hn
  refine ⟨Rsq.inFlightFor_eq_none fun f hf => ?_, ?_⟩
  · exact hd _ (by simp [hf]) _ (List.mem_map_of_mem hmem)
  · obtain ⟨c, hc⟩ : ∃ c, q.queuedFor a.outlet = some c := by
      refine Option.ne_none_iff_exists'.mp fun hnone => ?_
      obtain ⟨h1, h2⟩ := Rsq.queuedFor_eq_none_iff.mp hnone
      exact ha.elim (fun h => h1 a h rfl) fun h => h2 a h rfl
    obtain ⟨hco, hcm⟩ := Rsq.queuedFor_some hc
    rw [hc, List.inj_on_of_nodup_map hq (List.mem_append.mpr hcm) hmem hco]

/-- Settles O32: the lookup finds the action in flight first, then the one queued. -/
theorem pendingActionIsTheOneHeld : Obligations.PendingActionIsTheOneHeld := by
  intro s o hl
  refine ⟨fun f hf ho => State.pendingFor_inFlight hf ho, ?_, fun h => ?_⟩
  · rintro a ha rfl
    obtain ⟨hf, hq⟩ := Rsq.queuedFor_of_mem hl.1 ha
    simp [State.pendingFor, hf, hq]
  · have hf : s.rsq.inFlightFor o = none := Rsq.inFlightFor_eq_none fun f hf => h f.action (by simp [heldActions, hf])
    have hq : s.rsq.queuedFor o = none := Rsq.queuedFor_eq_none_iff.mpr
      ⟨fun a ha => h a (by simp [heldActions, ha]), fun a ha => h a (by simp [heldActions, ha])⟩
    simp [State.pendingFor, hf, hq]

/-! ### Requests -/

@[simp] theorem Action.lane_close (o : OutletIx) (g : Origin) (k : Option SlotIx) :
    (⟨o, .closeRelay, g, k⟩ : Action).lane = .standard := by simp [Action.lane]

@[simp] theorem Action.lane_tenant (o : OutletIx) (kind : ActionKind) (k : Option SlotIx) :
    (⟨o, kind, .tenant, k⟩ : Action).lane = .standard := by simp [Action.lane]

@[simp] theorem Action.lane_manual (o : OutletIx) (kind : ActionKind) (k : Option SlotIx) :
    (⟨o, kind, .manual, k⟩ : Action).lane = .standard := by simp [Action.lane]

@[simp] theorem Action.lane_branchOpen (o : OutletIx) (k : Option SlotIx) :
    (⟨o, .openRelay, .branch, k⟩ : Action).lane = .urgent := by simp [Action.lane]

theorem Action.lane_of_close {a : Action} (h : a.kind = .closeRelay) : a.lane = .standard := by
  simp [Action.lane, h]

theorem Rsq.append_standard (q : Rsq) {a : Action} (h : a.lane = .standard) :
    q.append a = { q with standard := q.standard ++ [a] } := by simp [Rsq.append, h]

theorem Rsq.append_urgent (q : Rsq) {a : Action} (h : a.lane = .urgent) :
    q.append a = { q with urgent := q.urgent ++ [a] } := by simp [Rsq.append, h]

/-- The request of an outlet with nothing pending is a question of room (R133). -/
theorem State.requestOutcome_none {a : Action} (h : s.pendingFor a.outlet = none) :
    s.requestOutcome a = if (s.rsq.lane a.lane).length < a.lane.capacity then .accepted else .queueFull := by
  simp [State.requestOutcome, h, Rsq.hasRoom]

theorem State.requestOutcome_rearm {a : Action} {p : Pending} (h : s.pendingFor a.outlet = some p)
    (hk : p.action.kind = .rearm) : s.requestOutcome a = .busy := by
  simp [State.requestOutcome, h, hk]

theorem State.requestOutcome_merged {a : Action} {p : Pending} (h : s.pendingFor a.outlet = some p)
    (hr : p.action.kind ≠ .rearm) (hk : p.action.kind = a.kind) : s.requestOutcome a = .merged := by
  simp [State.requestOutcome, h, hk ▸ hr, hk]

theorem State.requestOutcome_inFlight {a b : Action} (h : s.pendingFor a.outlet = some ⟨b, true⟩)
    (hk : b.kind ≠ a.kind) : s.requestOutcome a = .busy := by
  simp [State.requestOutcome, h, hk]

/-- A request over a queued action of the other kind: the action it supersedes counts as room in its own lane (R133). -/
theorem State.requestOutcome_queued {a b : Action} (h : s.pendingFor a.outlet = some ⟨b, false⟩)
    (hr : b.kind ≠ .rearm) (hk : b.kind ≠ a.kind) :
    s.requestOutcome a =
      if (s.rsq.lane a.lane).length < a.lane.capacity + (if b.lane = a.lane then 1 else 0) then .accepted
      else .queueFull := by
  simp [State.requestOutcome, h, hr, hk, Rsq.hasRoom]

/-- An accepted request with nothing queued for its outlet joins its lane (R133). -/
theorem State.enqueue_of_none {a : Action} (h : s.rsq.queuedFor a.outlet = none) :
    s.enqueue a = { s with rsq := s.rsq.append a } := by
  simp [State.enqueue, State.supersede, h]

/-- An accepted request over a queued action: that one is retired SUPERSEDED, then the new one joins (R134). -/
theorem State.enqueue_of_queued {a b : Action} (h : s.rsq.queuedFor a.outlet = some b) :
    s.enqueue a =
      { s with
        rsq := (s.rsq.remove a.outlet).append a
        nq := raised s [.actionDone b.outlet b.kind b.origin .superseded] } := by
  simp [State.enqueue, State.supersede, h, State.raiseDone, State.raiseAt_eq, raised]

/-- A lane that holds no action for an outlet is left by a removal. -/
theorem filter_outlet_eq_self {l : List Action} (h : ∀ a ∈ l, a.outlet ≠ o) :
    (l.filter fun c => c.outlet != o) = l :=
  List.filter_eq_self.mpr fun a ha => by simpa using h a ha

end Sys2Proof.Machine
end

section
/-! The loads: each parameter's range, and the record that a load writes. -/

namespace Sys2Proof.Machine

open Sys2Proof.Safety Sys2Proof.Claims

variable {s : State}

/-! ### Parameters -/

theorem bytesNat_two (a b : Byte) : bytesNat [a, b] = a.toNat * 256 + b.toNat := by
  simp [bytesNat]

theorem bytesNat_three (a b c : Byte) : bytesNat [a, b, c] = a.toNat * 65536 + b.toNat * 256 + c.toNat := by
  simp [bytesNat]
  ring

theorem outletIndex_val {o : OutletIx} {n : Nat} (h : o.val = n) : outletIndex n = some o := by
  subst h
  simp [outletIndex]

theorem outletIndex_some {o : OutletIx} {n : Nat} (h : outletIndex n = some o) : n < 48 := by
  unfold outletIndex at h
  split at h
  · assumption
  · cases h

theorem slotIndex_val {k : SlotIx} {n : Nat} (h : k.val = n) : slotIndex n = some k := by
  subst h
  simp [slotIndex]

theorem slotIndex_some {k : SlotIx} {n : Nat} (h : slotIndex n = some k) : n < 16 := by
  unfold slotIndex at h
  split at h
  · assumption
  · cases h

theorem branchIndex_val {b : BranchIx} {n : Nat} (h : b.val = n) : branchIndex n = some b := by
  subst h
  simp [branchIndex]

theorem branchIndex_some {b : BranchIx} {n : Nat} (h : branchIndex n = some b) : n < 6 := by
  unfold branchIndex at h
  split at h
  · assumption
  · cases h

theorem fixedIndex_val {i : FixedIx} {n : Nat} (h : i.val + 1 = n) : fixedIndex n = some i := by
  have hn : 1 ≤ n ∧ n ≤ 8 := by omega
  simp only [fixedIndex, hn, and_self, dite_true, Option.some.injEq, Fin.ext_iff]
  omega

theorem fixedIndex_some {i : FixedIx} {n : Nat} (h : fixedIndex n = some i) : 1 ≤ n ∧ n ≤ 8 := by
  unfold fixedIndex at h
  split at h
  · assumption
  · cases h

theorem bandIndex_val {b : Band} {n : Nat} (h : b.val = n) : bandIndex n = some b := by
  subst h
  simp [bandIndex]

theorem bandIndex_some {b : Band} {n : Nat} (h : bandIndex n = some b) : n ≤ 3 := by
  unfold bandIndex at h
  split at h
  · omega
  · cases h

/-- A slot byte: the slot's number, or 255 for absent (R180). -/
theorem optSlot_val {k : Option SlotIx} {n : Nat} (h : (k.map Fin.val).getD 255 = n) : optSlot n = some k := by
  cases k with
  | none => simpa [optSlot] using h.symm
  | some k =>
    have hn : n ≠ 255 := by
      have := k.isLt
      simp only [Option.map_some, Option.getD_some] at h
      omega
    simp [optSlot, hn, slotIndex_val h]

theorem optSlot_some {k : Option SlotIx} {n : Nat} (h : optSlot n = some k) : n < 16 ∨ n = 255 := by
  unfold optSlot at h
  split at h
  · exact .inr ‹_›
  · obtain ⟨j, hj, -⟩ := Option.map_eq_some_iff.mp h
    exact .inl (slotIndex_some hj)

theorem flagParam_of_le {n : Nat} (h : n ≤ 1) : flagParam n = some (decide (n = 1)) := by
  rcases Nat.le_one_iff_eq_zero_or_eq_one.mp h with rfl | rfl <;> rfl

theorem flagParam_some {n : Nat} {b : Bool} (h : flagParam n = some b) : n ≤ 1 := by
  unfold flagParam at h
  split at h
  · exact Nat.zero_le _
  · exact Nat.le_refl _
  · cases h

theorem modeParam_of_le {n : Nat} (h : n ≤ 1) : modeParam n = some (if n = 0 then .real else .apparent) := by
  rcases Nat.le_one_iff_eq_zero_or_eq_one.mp h with rfl | rfl <;> rfl

theorem modeParam_some {n : Nat} {m : CountMode} (h : modeParam n = some m) : n ≤ 1 := by
  unfold modeParam at h
  split at h
  · exact Nat.zero_le _
  · exact Nat.le_refl _
  · cases h

theorem classParam_of_le {n : Nat} (h : n ≤ 2) :
    classParam n = some (if n = 2 then .exempt else if n = 1 then .billed else .contracted) := by
  interval_cases n <;> rfl

theorem classParam_some {n : Nat} {c : OutletClass} (h : classParam n = some c) : n ≤ 2 := by
  unfold classParam at h
  split at h
  · exact Nat.zero_le _
  · exact Nat.le_succ _
  · exact Nat.le_refl _
  · cases h

/-! ### What a load answers -/

/-- In CONFIG a load of parameters in range writes them. -/
theorem portCommand_load {α : Type} {code : Byte} {len : Nat} {r : Record} {params : Option α} {p : α}
    {write : State → α → State} (h : s.resetHeld = false) (hc : s.mpt.phase = .config) (hl : r.params.length = len)
    (hp : params = some p) :
    portCommand code len r s (fun s => s.load code params write) =
      .next ((write (s.endTransaction (2 + r.params.length + r.trailing.length)) p).reply code .ok []) := by
  rw [portCommand_work h hl]
  simp [State.load, hc, hp]

/-- In CONFIG a load of parameters out of range is refused. -/
theorem portCommand_load_none {α : Type} {code : Byte} {len : Nat} {r : Record} {params : Option α}
    {write : State → α → State} (h : s.resetHeld = false) (hc : s.mpt.phase = .config) (hl : r.params.length = len)
    (hp : params = none) :
    portCommand code len r s (fun s => s.load code params write) = .next (answered s r code .badArgument []) := by
  rw [portCommand_work h hl]
  simp only [State.load, hp, State.endTransaction_phase, hc, ne_eq, not_true_eq_false, if_false]
  rfl

/-! ### LOAD STATION and LOAD TENANT -/

/-- LOAD STATION's parameters, each in its range. -/
theorem stationParams_val {id x t sweeps gap auto band thr m2 m1 m0 : Byte} {more : List Byte} {b : Band}
    (hb : b.val = band.toNat) (hid : id.toNat ≤ 63) (hx : 1 ≤ x.toNat ∧ x.toNat ≤ 8)
    (ht : 1 ≤ t.toNat ∧ t.toNat ≤ 15) (hs : sweeps.toNat ≤ 15) (ha : auto.toNat ≤ 1)
    (hthr : thr.toNat ∈ [1, 2, 4, 8, 16, 32]) (hm : m2.toNat * 65536 + m1.toNat * 256 + m0.toNat < 262144) :
    stationParams ⟨[id, x, t, sweeps, gap, auto, band, thr, m2, m1, m0], more⟩ = some {
      id := id.toNat, exchange := x.toNat, settleTallies := t.toNat, settleSweeps := sweeps.toNat
      staggerGap := gap.toNat, autoBand := decide (auto.toNat = 1), manualBand := b, attnThreshold := thr.toNat
      kindMask := BitVec.ofNat 18 (m2.toNat * 65536 + m1.toNat * 256 + m0.toNat) } := by
  have hmask : paramNum ⟨[id, x, t, sweeps, gap, auto, band, thr, m2, m1, m0], more⟩ 8 3 =
    m2.toNat * 65536 + m1.toNat * 256 + m0.toNat := bytesNat_three m2 m1 m0
  have hflag : flagParam (paramByte ⟨[id, x, t, sweeps, gap, auto, band, thr, m2, m1, m0], more⟩ 5) =
    some (decide (auto.toNat = 1)) := flagParam_of_le ha
  have hband : bandIndex (paramByte ⟨[id, x, t, sweeps, gap, auto, band, thr, m2, m1, m0], more⟩ 6) = some b :=
    bandIndex_val hb
  rw [stationParams, hflag, hband]
  dsimp only
  rw [if_pos ⟨hid, hx.1, hx.2, ht.1, ht.2, hs, hthr, hmask ▸ hm⟩, hmask]
  rfl

theorem stationParams_some {id x t sweeps gap auto band thr m2 m1 m0 : Byte} {more : List Byte} {p : Station}
    (h : stationParams ⟨[id, x, t, sweeps, gap, auto, band, thr, m2, m1, m0], more⟩ = some p) :
    id.toNat ≤ 63 ∧ (1 ≤ x.toNat ∧ x.toNat ≤ 8) ∧ (1 ≤ t.toNat ∧ t.toNat ≤ 15) ∧ sweeps.toNat ≤ 15 ∧
      auto.toNat ≤ 1 ∧ band.toNat ≤ 3 ∧ thr.toNat ∈ [1, 2, 4, 8, 16, 32] ∧
      m2.toNat * 65536 + m1.toNat * 256 + m0.toNat < 262144 := by
  unfold stationParams at h
  split at h
  · next hflag hband =>
    split at h
    · next hr =>
      obtain ⟨hid, hx1, hx2, ht1, ht2, hs, hthr, hm⟩ := hr
      exact ⟨hid, ⟨hx1, hx2⟩, ⟨ht1, ht2⟩, hs, flagParam_some hflag, bandIndex_some hband, hthr,
        bytesNat_three m2 m1 m0 ▸ hm⟩
    · cases h
  · cases h

/-- Settles O18: parameters in range are read as themselves, and out of range there are none. -/
theorem loadStationWritesParameters : Obligations.LoadStationWritesParameters := by
  intro id x t sweeps gap auto band thr m2 m1 m0 more s h hc r mask inRange
  constructor
  · rintro b hb ⟨hid, hx, ht, hs, ha, -, hthr, hm⟩
    rw [exec, execLoadStation, portCommand_load (len := 11) (r := r) h hc rfl (stationParams_val hb hid hx ht hs ha hthr hm)]
    rfl
  · intro hn
    exact portCommand_load_none h hc rfl (Option.eq_none_iff_forall_ne_some.mpr fun p hp => hn (stationParams_some hp))

/-- LOAD TENANT's parameters, each in its range; with ID 0 the slot is freed. -/
theorem tenantParams_val {slot idH idL codeH codeL d mode allow rp hold : Byte} {more : List Byte} {k : SlotIx}
    (hk : k.val = slot.toNat) (hid : idH.toNat * 256 + idL.toNat ≤ 4095) (hm : mode.toNat ≤ 1)
    (hrp : 50 ≤ rp.toNat ∧ rp.toNat ≤ 100) (hh : 1 ≤ hold.toNat ∧ hold.toNat ≤ 60) :
    tenantParams ⟨[slot, idH, idL, codeH, codeL, d, mode, allow, rp, hold], more⟩ = some (k,
      if idH.toNat * 256 + idL.toNat = 0 then Tenant.free
      else {
        tenantId := some (idH.toNat * 256 + idL.toNat)
        contractCode := codeH.toNat * 256 + codeL.toNat
        burst := d.toNat
        mode := if mode.toNat = 0 then .real else .apparent
        allowance := allow.toNat
        restorePercent := rp.toNat
        restoreHold := hold.toNat }) := by
  have hi : paramNum ⟨[slot, idH, idL, codeH, codeL, d, mode, allow, rp, hold], more⟩ 1 2 =
    idH.toNat * 256 + idL.toNat := bytesNat_two idH idL
  have hcode : paramNum ⟨[slot, idH, idL, codeH, codeL, d, mode, allow, rp, hold], more⟩ 3 2 =
    codeH.toNat * 256 + codeL.toNat := bytesNat_two codeH codeL
  have hslot : slotIndex (paramByte ⟨[slot, idH, idL, codeH, codeL, d, mode, allow, rp, hold], more⟩ 0) = some k :=
    slotIndex_val hk
  have hmode : modeParam (paramByte ⟨[slot, idH, idL, codeH, codeL, d, mode, allow, rp, hold], more⟩ 6) =
    some (if mode.toNat = 0 then .real else .apparent) := modeParam_of_le hm
  rw [tenantParams, hslot, hmode]
  dsimp only
  rw [if_pos ⟨hi ▸ hid, hrp.1, hrp.2, hh.1, hh.2⟩, hi, hcode]
  rfl

theorem tenantParams_some {slot idH idL codeH codeL d mode allow rp hold : Byte} {more : List Byte}
    {p : SlotIx × Tenant}
    (h : tenantParams ⟨[slot, idH, idL, codeH, codeL, d, mode, allow, rp, hold], more⟩ = some p) :
    slot.toNat < 16 ∧ idH.toNat * 256 + idL.toNat ≤ 4095 ∧ mode.toNat ≤ 1 ∧ (50 ≤ rp.toNat ∧ rp.toNat ≤ 100) ∧
      1 ≤ hold.toNat ∧ hold.toNat ≤ 60 := by
  unfold tenantParams at h
  split at h
  · next hslot hmode =>
    split at h
    · next hr =>
      obtain ⟨hle, hrp1, hrp2, hh1, hh2⟩ := hr
      exact ⟨slotIndex_some hslot, bytesNat_two idH idL ▸ hle, modeParam_some hmode, ⟨hrp1, hrp2⟩, hh1, hh2⟩
    · cases h
  · cases h

/-- Settles O19: parameters in range are read as themselves, and out of range there are none. -/
theorem loadTenantWritesSlot : Obligations.LoadTenantWritesSlot := by
  intro slot idH idL codeH codeL d mode allow rp hold more s h hc r id inRange
  constructor
  · rintro k hk ⟨-, hid, hm, hrp, hh⟩
    rw [exec, execLoadTenant, portCommand_load (len := 10) (r := r) h hc rfl (tenantParams_val hk hid hm hrp hh)]
    rfl
  · intro hn
    exact portCommand_load_none h hc rfl (Option.eq_none_iff_forall_ne_some.mpr fun p hp => hn (tenantParams_some hp))

/-! ### LOAD OUTLET, CALIBRATION, BRANCH and FIXED -/

theorem outletParams_val {n slot cls rank : Byte} {more : List Byte} {o : OutletIx} {q : Fin 16} {k : Option SlotIx}
    (ho : o.val = n.toNat) (hq : q.val = rank.toNat) (hk : (k.map Fin.val).getD 255 = slot.toNat)
    (hc : cls.toNat ≤ 2) :
    outletParams ⟨[n, slot, cls, rank], more⟩ = some {
      outlet := o
      slot := k
      cls := if k = none ∨ cls.toNat = 2 then .exempt else if cls.toNat = 1 then .billed else .contracted
      rank := q } := by
  have h1 : outletIndex (paramByte ⟨[n, slot, cls, rank], more⟩ 0) = some o := outletIndex_val ho
  have h2 : optSlot (paramByte ⟨[n, slot, cls, rank], more⟩ 1) = some k := optSlot_val hk
  have h3 := classParam_of_le (n := paramByte ⟨[n, slot, cls, rank], more⟩ 2) hc
  have h4 : paramByte ⟨[n, slot, cls, rank], more⟩ 3 < 16 := hq.symm.trans_lt q.isLt
  rw [outletParams, h1, h2, h3]
  dsimp only
  rw [dif_pos h4]
  congr 2
  · cases k <;> simp [paramByte]
  · exact Fin.ext hq.symm

theorem outletParams_some {n slot cls rank : Byte} {more : List Byte} {p : OutletParams}
    (h : outletParams ⟨[n, slot, cls, rank], more⟩ = some p) :
    n.toNat < 48 ∧ (slot.toNat < 16 ∨ slot.toNat = 255) ∧ cls.toNat ≤ 2 ∧ rank.toNat ≤ 15 := by
  unfold outletParams at h
  split at h
  · next h1 h2 h3 =>
    split at h
    · next h4 => exact ⟨outletIndex_some h1, optSlot_some h2, classParam_some h3, Nat.le_of_lt_succ h4⟩
    · cases h
  · cases h

/-- A signed number in two bytes (R180). -/
theorem int16_bytes (a b : Byte) : int16 (bytesNat [a, b]) = (a ++ b).toInt := by
  rw [int16, bytesNat_two]
  congr 1
  apply BitVec.eq_of_toNat_eq
  have ha := a.isLt
  have hb := b.isLt
  rw [BitVec.toNat_append, BitVec.toNat_ofNat, Nat.shiftLeft_eq, Nat.mul_comm a.toNat (2 ^ 8),
    ← Nat.two_pow_add_eq_or_of_lt hb]
  omega

theorem calibrationParams_val {n g0 l0 g1 l1 g2 l2 g3 l3 oh ol : Byte} {more : List Byte} {o : OutletIx}
    (ho : o.val = n.toNat) (h1 : -512 ≤ (oh ++ ol).toInt) (h2 : (oh ++ ol).toInt ≤ 511) :
    calibrationParams ⟨[n, g0, l0, g1, l1, g2, l2, g3, l3, oh, ol], more⟩ = some {
      outlet := o
      gains := #v[g0.toNat * 256 + l0.toNat, g1.toNat * 256 + l1.toNat, g2.toNat * 256 + l2.toNat,
        g3.toNat * 256 + l3.toNat]
      offset := (oh ++ ol).toInt } := by
  have hi : outletIndex (paramByte ⟨[n, g0, l0, g1, l1, g2, l2, g3, l3, oh, ol], more⟩ 0) = some o := outletIndex_val ho
  have hoff : int16 (paramNum ⟨[n, g0, l0, g1, l1, g2, l2, g3, l3, oh, ol], more⟩ 9 2) = (oh ++ ol).toInt :=
    int16_bytes oh ol
  rw [calibrationParams, hi]
  dsimp only
  rw [hoff, if_pos ⟨h1, h2⟩]
  simp [paramNum, bytesNat_two]

theorem calibrationParams_some {n g0 l0 g1 l1 g2 l2 g3 l3 oh ol : Byte} {more : List Byte} {p : CalibrationParams}
    (h : calibrationParams ⟨[n, g0, l0, g1, l1, g2, l2, g3, l3, oh, ol], more⟩ = some p) :
    n.toNat < 48 ∧ -512 ≤ (oh ++ ol).toInt ∧ (oh ++ ol).toInt ≤ 511 := by
  unfold calibrationParams at h
  split at h
  · next hi =>
    split at h
    · next hr => exact ⟨outletIndex_some hi, int16_bytes oh ol ▸ hr⟩
    · cases h
  · cases h

theorem branchParams_val {n limH limL delay rp hold : Byte} {more : List Byte} {b : BranchIx} (hb : b.val = n.toNat)
    (hl : 1 ≤ limH.toNat * 256 + limL.toNat ∧ limH.toNat * 256 + limL.toNat ≤ 32000)
    (hd : 1 ≤ delay.toNat ∧ delay.toNat ≤ 15) (hp : 50 ≤ rp.toNat ∧ rp.toNat ≤ 95)
    (hh : 10 ≤ hold.toNat ∧ hold.toNat ≤ 250) :
    branchParams ⟨[n, limH, limL, delay, rp, hold], more⟩ = some {
      branch := b, limit := limH.toNat * 256 + limL.toNat, tripDelay := delay.toNat, restorePercent := rp.toNat
      restoreHold := hold.toNat } := by
  have hi : branchIndex (paramByte ⟨[n, limH, limL, delay, rp, hold], more⟩ 0) = some b := branchIndex_val hb
  have hlim : paramNum ⟨[n, limH, limL, delay, rp, hold], more⟩ 1 2 = limH.toNat * 256 + limL.toNat :=
    bytesNat_two limH limL
  rw [branchParams, hi]
  dsimp only
  rw [hlim, if_pos ⟨hl.1, hl.2, hd.1, hd.2, hp.1, hp.2, hh.1, hh.2⟩]
  rfl

theorem branchParams_some {n limH limL delay rp hold : Byte} {more : List Byte} {p : BranchParams}
    (h : branchParams ⟨[n, limH, limL, delay, rp, hold], more⟩ = some p) :
    n.toNat < 6 ∧ (1 ≤ limH.toNat * 256 + limL.toNat ∧ limH.toNat * 256 + limL.toNat ≤ 32000) ∧
      (1 ≤ delay.toNat ∧ delay.toNat ≤ 15) ∧ (50 ≤ rp.toNat ∧ rp.toNat ≤ 95) ∧
      10 ≤ hold.toNat ∧ hold.toNat ≤ 250 := by
  unfold branchParams at h
  split at h
  · next hi =>
    split at h
    · next hr =>
      obtain ⟨hl1, hl2, hd1, hd2, hp1, hp2, hh⟩ := hr
      have hlim : paramNum ⟨[n, limH, limL, delay, rp, hold], more⟩ 1 2 = limH.toNat * 256 + limL.toNat :=
        bytesNat_two limH limL
      exact ⟨branchIndex_some hi, hlim ▸ ⟨hl1, hl2⟩, ⟨hd1, hd2⟩, ⟨hp1, hp2⟩, hh⟩
    · cases h
  · cases h

theorem fixedParams_val {n slot c2 c1 c0 covers : Byte} {more : List Byte} {i : FixedIx} {k : Option SlotIx}
    (hi : i.val + 1 = n.toNat) (hk : (k.map Fin.val).getD 255 = slot.toNat) (hc : covers.toNat ≤ 63) :
    fixedParams ⟨[n, slot, c2, c1, c0, covers], more⟩ = some (i, k.map fun k =>
      { slot := k
        contribution := c2.toNat * 65536 + c1.toNat * 256 + c0.toNat
        covers := if covers.toNat = 0 then none else some covers.toNat }) := by
  have h1 : fixedIndex (paramByte ⟨[n, slot, c2, c1, c0, covers], more⟩ 0) = some i := fixedIndex_val hi
  have h2 : optSlot (paramByte ⟨[n, slot, c2, c1, c0, covers], more⟩ 1) = some k := optSlot_val hk
  have h3 : paramNum ⟨[n, slot, c2, c1, c0, covers], more⟩ 2 3 = c2.toNat * 65536 + c1.toNat * 256 + c0.toNat :=
    bytesNat_three c2 c1 c0
  have h4 : paramByte ⟨[n, slot, c2, c1, c0, covers], more⟩ 5 ≤ 63 := hc
  rw [fixedParams, h1, h2]
  dsimp only
  rw [if_pos h4, h3]
  rfl

theorem fixedParams_some {n slot c2 c1 c0 covers : Byte} {more : List Byte} {p : FixedIx × Option FixedEntry}
    (h : fixedParams ⟨[n, slot, c2, c1, c0, covers], more⟩ = some p) :
    (1 ≤ n.toNat ∧ n.toNat ≤ 8) ∧ (slot.toNat < 16 ∨ slot.toNat = 255) ∧ covers.toNat ≤ 63 := by
  unfold fixedParams at h
  split at h
  · next h1 h2 =>
    split at h
    · next h3 => exact ⟨fixedIndex_some h1, optSlot_some h2, h3⟩
    · cases h
  · cases h

/-- Settles O20: for each load, parameters in range are read as themselves, and out of range there are none. -/
theorem recordLoadsWriteTheirRecord : Obligations.RecordLoadsWriteTheirRecord := by
  intro s h hc
  refine ⟨?_, ?_, ?_, ?_⟩
  · intro n slot cls rank more r inRange
    refine ⟨?_, fun hn => portCommand_load_none h hc rfl
      (Option.eq_none_iff_forall_ne_some.mpr fun p hp => hn (outletParams_some hp))⟩
    rintro o q k ho hq hk ⟨-, -, hcls, -⟩
    rw [exec, execLoadOutlet, portCommand_load (len := 4) (r := r) h hc rfl (outletParams_val ho hq hk hcls)]
    rfl
  · intro n g0 l0 g1 l1 g2 l2 g3 l3 oh ol more r offset inRange
    refine ⟨?_, fun hn => portCommand_load_none h hc rfl
      (Option.eq_none_iff_forall_ne_some.mpr fun p hp => hn (calibrationParams_some hp))⟩
    rintro o ho ⟨-, h1, h2⟩
    rw [exec, execLoadCalibration, portCommand_load (len := 11) (r := r) h hc rfl (calibrationParams_val ho h1 h2)]
    rfl
  · intro n limH limL delay rp hold more r limit inRange
    refine ⟨?_, fun hn => portCommand_load_none h hc rfl
      (Option.eq_none_iff_forall_ne_some.mpr fun p hp => hn (branchParams_some hp))⟩
    rintro b hb ⟨-, hl, hd, hp, hh⟩
    rw [exec, execLoadBranch, portCommand_load (len := 6) (r := r) h hc rfl (branchParams_val hb hl hd hp hh)]
    rfl
  · intro n slot c2 c1 c0 covers more r inRange
    refine ⟨?_, fun hn => portCommand_load_none h hc rfl
      (Option.eq_none_iff_forall_ne_some.mpr fun p hp => hn (fixedParams_some hp))⟩
    rintro i k hi hk ⟨-, -, hcov⟩
    rw [exec, execLoadFixed, portCommand_load (len := 6) (r := r) h hc rfl (fixedParams_val hi hk hcov)]
    rfl

end Sys2Proof.Machine
end

section
/-! START: the checks that a usable configuration passes, adoption outlet by outlet, and the entry into WARMUP. -/

namespace Sys2Proof.Machine

open Sys2Proof.Safety Sys2Proof.Claims

variable {s : State}

/-! ### The configuration -/

theorem State.mem_usedSlots {k : SlotIx} : k ∈ s.usedSlots ↔ s.inUse k = true := by
  simp [State.usedSlots, allSlots]

/-- A usable configuration fails none of R163's checks. -/
theorem State.configFault_none (hid : s.station.id ≠ 0) (hused : ∃ k, s.inUse k = true)
    (hids : ∀ j k, s.inUse j = true → s.inUse k = true → (s.tenant j).tenantId = (s.tenant k).tenantId → j = k)
    (hslots : ∀ o k, (s.outlet o).slot = some k → s.inUse k = true)
    (hfixed : ∀ n e, s.fixedEntry n = some e → s.inUse e.slot = true ∧ e.covers ≠ some s.station.id) :
    s.configFault = none := by
  have used : s.usedSlots.isEmpty = false := by
    obtain ⟨k, hk⟩ := hused
    rw [List.isEmpty_eq_false_iff]
    exact List.ne_nil_of_mem (State.mem_usedSlots.mpr hk)
  have repeats : allSlots.find? s.repeatsLower = none := by
    simp only [List.find?_eq_none, State.repeatsLower, Bool.and_eq_true, List.any_eq_true, decide_eq_true_eq, beq_iff_eq]
    rintro k - ⟨hk, j, -, ⟨hlt, hj⟩, he⟩
    exact hlt.ne (hids j k hj hk he)
  have names : allOutlets.find? s.namesFreeSlot = none := by
    simp only [List.find?_eq_none]
    intro o _ ho
    unfold State.namesFreeSlot at ho
    split at ho
    · next k hk => simp [hslots o k hk] at ho
    · cases ho
  have fixed : allFixed.find? s.badFixed = none := by
    simp only [List.find?_eq_none]
    intro n _ hn
    unfold State.badFixed at hn
    split at hn
    · next e he =>
      obtain ⟨hu, hc⟩ := hfixed n e he
      simp [hu, hc] at hn
    · cases hn
  simp [State.configFault, hid, used, repeats, names, fixed]

/-! ### Adoption -/

/-- What adoption makes of an outlet's record (R17, R146). -/
def State.adopted (s : State) (o : OutletIx) : Outlet :=
  if (s.outlet o).residualPulse.isNone then (s.outlet o).adopt (s.sensed o) else s.outlet o

theorem State.adoptOutlet_eq (s : State) (o : OutletIx) : s.adoptOutlet o = s.setOutlet o (s.adopted o) := by
  unfold State.adoptOutlet State.adopted
  split
  · rfl
  · simp [State.setOutlet, State.outlet]

/-- Adoption of all the outlets changes their records alone, each as its contact shows. -/
theorem adoptAll (s : State) :
    ∃ v, allOutlets.foldl State.adoptOutlet s = { s with outlets := v } ∧ ∀ o : OutletIx, v[o.val] = s.adopted o := by
  have frame : ∃ v, allOutlets.foldl State.adoptOutlet s = { s with outlets := v } :=
    foldl_keeps (P := fun u => ∃ v, u = { s with outlets := v })
      (fun u o ⟨v, hv⟩ => ⟨_, by rw [State.adoptOutlet_eq, hv]; rfl⟩) allOutlets s ⟨_, rfl⟩
  obtain ⟨v, hv⟩ := frame
  refine ⟨v, hv, fun o => ?_⟩
  have worked := foldl_worked (get := State.outlet) (f := State.adoptOutlet) (work := State.adopted)
    (fun u a => by rw [State.adoptOutlet_eq, State.outlet_setOutlet_self])
    (fun u a c hc => by rw [State.adoptOutlet_eq, State.outlet_setOutlet_ne u (Ne.symm hc)])
    (fun u a c hc => by
      unfold State.adopted
      rw [State.adoptOutlet_eq, State.outlet_setOutlet_ne u (Ne.symm hc)]
      rfl)
    allOutlets (List.nodup_finRange 48) s o
  have mem : o ∈ allOutlets := List.mem_finRange o
  rw [hv, if_pos mem] at worked
  exact worked

/-- The record that adoption leaves, field by field (R17). -/
theorem State.adopted_eq (s : State) (o : OutletIx) :
    s.adopted o =
      if (s.outlet o).residualPulse.isSome then s.outlet o
      else if s.contacts.getLsbD o.val then
        { s.outlet o with
          feedback := .closed, commanded := .closed, reason := .none, remembered := none, actuator := .enabled }
      else
        { s.outlet o with
          feedback := .opened, commanded := .opened, reason := .manual, actuator := .enabled
          remembered := some ((s.outlet o).remembered.getD (s.outlet o).reading.draw) } := by
  unfold State.adopted State.sensed
  cases (s.outlet o).residualPulse with
  | some p => rfl
  | none =>
    cases s.contacts.getLsbD o.val
    · rfl
    · rfl

/-! ### The entry into WARMUP -/

theorem State.startSweep_eq (s : State) : s.startSweep = { s with osu := (sweepStarted s).osu } := by
  unfold State.startSweep sweepStarted
  cases s.station.autoBand <;> rfl

/-- The entry into WARMUP (R164): all but the adopted records, written out. -/
theorem State.enterWarmup_eq (s : State) :
    ∃ v : Vector Outlet 48, (∀ o : OutletIx, v[o.val] = s.adopted o) ∧
      s.enterWarmup = { s with
        outlets := v
        osu := (sweepStarted s).osu
        ctb := { s.ctb with timer := some (2 * s.station.exchange * 250000) }
        rlc := { s.rlc with
          link := .listen
          otherRun := s.rlc.otherRun ++ [⟨.announce (allSlots.filter s.inUse).length, 0⟩] }
        mpt := { s.mpt with phase := .warmup } } := by
  obtain ⟨v, hv, ho⟩ := adoptAll { s with mpt := { s.mpt with phase := .warmup } }
  refine ⟨v, ho, ?_⟩
  unfold State.enterWarmup
  dsimp only
  rw [hv, State.startSweep_eq]
  rfl

/-- Settles O21: the checks pass, and the entry into WARMUP is as written out. -/
theorem startEntersWarmup : Obligations.StartEntersWarmup := by
  intro r pins s h hc hr hid hused hids hslots hfixed
  obtain ⟨v, hv, he⟩ :=
    ((s.endTransaction (2 + r.params.length + r.trailing.length)).withPins pins).enterWarmup_eq
  have hlen : r.params.length = 0 := by rw [hr]; rfl
  have fault : (s.endTransaction (2 + r.params.length + r.trailing.length)).configFault = none :=
    State.configFault_none hid hused hids hslots hfixed
  refine ⟨((s.endTransaction (2 + r.params.length + r.trailing.length)).withPins pins).enterWarmup.reply 32 .ok [],
    ?_, ?_, fun o => ?_⟩
  · rw [exec, execStart, portCommand_work h hlen]
    simp only [State.endTransaction_phase, hc, ne_eq, not_true_eq_false, if_false, fault]
  · rw [he]
    rfl
  · rw [State.reply_outlet, he]
    exact (hv o).trans (State.adopted_eq _ o)

end Sys2Proof.Machine
end

section
/-! OUTLET OPEN and OUTLET CLOSE: the request's outcome by what is pending, and the record each standing leaves. -/

namespace Sys2Proof.Machine

open Sys2Proof.Safety Sys2Proof.Claims

variable {s : State} {o : OutletIx}

/-! ### Requests for the standard lane -/

theorem State.requestOutcome_room {a : Action} (h : s.pendingFor a.outlet = none) (hl : a.lane = .standard)
    (hr : s.rsq.standard.length < 32) : s.requestOutcome a = .accepted := by
  rw [State.requestOutcome_none h, hl]
  exact if_pos hr

theorem State.requestOutcome_full {a : Action} (h : s.pendingFor a.outlet = none) (hl : a.lane = .standard)
    (hr : 32 ≤ s.rsq.standard.length) : s.requestOutcome a = .queueFull := by
  rw [State.requestOutcome_none h, hl]
  exact if_neg (Nat.not_lt.mpr hr)

/-- A queued action of the request's own lane makes its own room (R133). -/
theorem State.requestOutcome_over_standard {a b : Action} (h : s.pendingFor a.outlet = some ⟨b, false⟩)
    (hr : b.kind ≠ .rearm) (hk : b.kind ≠ a.kind) (hl : a.lane = .standard)
    (room : s.rsq.standard.length < 32 ∨ b.lane = .standard ∧ s.rsq.standard.length ≤ 32) :
    s.requestOutcome a = .accepted := by
  have roomy : s.rsq.standard.length < 32 + if b.lane = .standard then 1 else 0 := by
    split
    · omega
    · next hb => exact room.resolve_right fun ⟨h, _⟩ => hb h
  rw [State.requestOutcome_queued h hr hk, hl]
  exact if_pos roomy

/-- A queued action of the other lane makes no room (R133). -/
theorem State.requestOutcome_over_full {a b : Action} (h : s.pendingFor a.outlet = some ⟨b, false⟩)
    (hr : b.kind ≠ .rearm) (hk : b.kind ≠ a.kind) (hl : a.lane = .standard) (hb : b.lane ≠ .standard)
    (full : 32 ≤ s.rsq.standard.length) : s.requestOutcome a = .queueFull := by
  rw [State.requestOutcome_queued h hr hk, hl, if_neg hb]
  exact if_neg (Nat.not_lt.mpr full)

/-- An accepted request with nothing pending joins the standard lane. -/
theorem State.enqueue_standard {a : Action} (h : s.pendingFor a.outlet = none) (hl : a.lane = .standard) :
    s.enqueue a = { s with rsq := { s.rsq with standard := s.rsq.standard ++ [a] } } := by
  rw [State.enqueue_of_none (State.pendingFor_none h).2, Rsq.append_standard _ hl]

/-- An accepted request over a queued action leaves it out of both lanes and joins the standard lane. -/
theorem State.enqueue_standard_over {a b : Action} (h : s.pendingFor a.outlet = some ⟨b, false⟩)
    (hl : a.lane = .standard) :
    s.enqueue a =
      { s with
        rsq := { s.rsq with
          urgent := s.rsq.urgent.filter fun c => c.outlet != a.outlet
          standard := (s.rsq.standard.filter fun c => c.outlet != a.outlet) ++ [a] }
        nq := raised s [.actionDone b.outlet b.kind b.origin .superseded] } := by
  rw [State.enqueue_of_queued (State.pendingFor_queued h).2, Rsq.append_standard _ hl]
  rfl

/-! ### OUTLET OPEN -/

/-- The state on which an outlet command of one parameter does its work. -/
def State.commandStart (s : State) (r : Record) (pins : Contacts) : State :=
  (s.endTransaction (2 + r.params.length + r.trailing.length)).withPins pins

theorem State.outletCommand_work {code : Byte} {n : Nat} {work : State → OutletIx → State} (hp : s.mpt.phase = .run)
    (ho : o.val = n) : s.outletCommand code n work = work s o := by
  simp [State.outletCommand, hp, outletIndex_val ho]

theorem exec_outletOpen {b : Byte} {more : List Byte} {pins : Contacts} (h : s.resetHeld = false)
    (hp : s.mpt.phase = .run) (ho : o.val = b.toNat) :
    exec (.outletOpen ⟨[b], more⟩ pins) s = .next
      (if (s.outlet o).actuator = .faulted then (s.commandStart ⟨[b], more⟩ pins).refuse 48 .wrongState
      else (s.commandStart ⟨[b], more⟩ pins).openByStanding o) := by
  have len : (Record.mk [b] more).params.length = 1 := rfl
  rw [exec, execOutletOpen, portCommand_work h len]
  exact congrArg _ (State.outletCommand_work hp ho)

theorem State.openByStanding_accepted (hr : (s.outlet o).reason = .none)
    (out : s.requestOutcome (s.manualAction o .openRelay) = .accepted) :
    s.openByStanding o =
      (((s.enqueue (s.manualAction o .openRelay)).setOutlet o
        ((s.outlet o).manuallyOpened (s.counted o))).choose).reply 48 .ok [] := by
  rw [State.openByStanding, hr]
  dsimp only
  rw [out]

theorem State.openByStanding_full (hr : (s.outlet o).reason = .none)
    (out : s.requestOutcome (s.manualAction o .openRelay) = .queueFull) :
    s.openByStanding o = s.refuse 48 .queueFull := by
  rw [State.openByStanding, hr]
  dsimp only
  rw [out]

theorem State.openByStanding_busy (hr : (s.outlet o).reason = .none)
    (out : s.requestOutcome (s.manualAction o .openRelay) = .busy) :
    s.openByStanding o = s.refuse 48 .busy := by
  rw [State.openByStanding, hr]
  dsimp only
  rw [out]

/-- An OPEN is merged with an OPEN pending, in whatever place. -/
theorem State.openByStanding_merged (hr : (s.outlet o).reason = .none) {p : Pending} (h : s.pendingFor o = some p)
    (hk : p.action.kind = .openRelay) :
    s.openByStanding o = (s.setOutlet o ((s.outlet o).manuallyOpened (s.counted o))).reply 48 .ok [] := by
  have out := State.requestOutcome_merged (a := s.manualAction o .openRelay) h (by simp [hk]) hk
  rw [State.openByStanding, hr]
  dsimp only
  rw [out]

/-- Settles O24: each standing's answer, the accepted requests by what is pending. -/
theorem outletOpenActsByStanding : Obligations.OutletOpenActsByStanding := by
  intro b more pins s o held hp ho r x answers opened appended
  have run := exec_outletOpen (more := more) (pins := pins) held hp ho
  refine ⟨fun hf => ?_, fun he => ?_⟩
  · refine run.trans ?_
    rw [if_pos hf]
    rfl
  have run := run.trans (congrArg _ (if_neg (by rw [he]; decide)))
  let u := s.commandStart r pins
  have lane : (u.manualAction o .openRelay).lane = .standard := Action.lane_manual ..
  refine ⟨fun hr => ?_, fun hr => ?_, fun hr => ⟨fun hn room => ?_, fun hn full => ?_, fun a ha hk hu room => ?_,
    fun p hq hk => ?_, fun a ha hk => ?_, fun p hq hk => ?_⟩⟩
  · refine run.trans (congrArg _ ?_)
    have hu : (u.outlet o).reason = .manual := hr
    rw [State.openByStanding, hu]
    rfl
  · refine run.trans (congrArg _ ?_)
    rcases hr with hr | hr
    · have hu : (u.outlet o).reason = .tenant := hr
      rw [State.openByStanding, hu]
      rfl
    · have hu : (u.outlet o).reason = .branch := hr
      rw [State.openByStanding, hu]
      rfl
  all_goals refine run.trans (congrArg _ ?_)
  · have free : u.pendingFor (u.manualAction o .openRelay).outlet = none := hn
    rw [State.openByStanding_accepted (s := u) hr (State.requestOutcome_room free lane room),
      State.enqueue_standard free lane]
    rfl
  · exact State.openByStanding_full (s := u) hr (State.requestOutcome_full hn lane full)
  · have pending : u.pendingFor (u.manualAction o .openRelay).outlet = some ⟨a, false⟩ := ha
    have differs : a.kind ≠ (u.manualAction o .openRelay).kind := by rw [hk]; exact nofun
    have out := State.requestOutcome_over_standard pending (by simp [hk]) differs lane
      (.inr ⟨Action.lane_of_close hk, room⟩)
    have urgent : (u.rsq.urgent.filter fun c => c.outlet != (u.manualAction o .openRelay).outlet) = u.rsq.urgent :=
      filter_outlet_eq_self (List.all_eq_true.mp hu · · |> bne_iff_ne.mp)
    rw [State.openByStanding_accepted (s := u) hr out, State.enqueue_standard_over (s := u) pending lane, urgent, hk]
    rfl
  · exact State.openByStanding_merged (s := u) hr hq hk
  · have differs : a.kind ≠ (u.manualAction o .openRelay).kind := by rw [hk]; exact nofun
    exact State.openByStanding_busy (s := u) hr (State.requestOutcome_inFlight (s := u) ha differs)
  · exact State.openByStanding_busy (s := u) hr (State.requestOutcome_rearm (s := u) hq hk)

/-! ### OUTLET CLOSE -/

theorem exec_outletClose {b : Byte} {more : List Byte} {pins : Contacts} (h : s.resetHeld = false)
    (hp : s.mpt.phase = .run) (ho : o.val = b.toNat) :
    exec (.outletClose ⟨[b], more⟩ pins) s = .next
      (if (s.outlet o).actuator = .faulted ∨ (s.outlet o).reason ≠ .manual then
        (s.commandStart ⟨[b], more⟩ pins).refuse 49 .wrongState
      else (s.commandStart ⟨[b], more⟩ pins).closeManual o) := by
  have len : (Record.mk [b] more).params.length = 1 := rfl
  rw [exec, execOutletClose, portCommand_work h len]
  exact congrArg _ (State.outletCommand_work hp ho)

theorem State.closeManual_merged {p : Pending} (h : s.pendingFor o = some p) (hk : p.action.kind = .closeRelay) :
    s.closeManual o = (s.setOutlet o (s.outlet o).restored).reply 49 .ok [] := by
  have out := State.requestOutcome_merged (a := s.manualAction o .closeRelay) h (by simp [hk]) hk
  rw [State.closeManual, out]

theorem State.closeManual_busy (out : s.requestOutcome (s.manualAction o .closeRelay) = .busy) :
    s.closeManual o = s.refuse 49 .busy := by
  rw [State.closeManual, out]

theorem State.closeManual_full (out : s.requestOutcome (s.manualAction o .closeRelay) = .queueFull) :
    s.closeManual o = s.refuse 49 .queueFull := by
  rw [State.closeManual, out]

theorem State.closeManual_accepted (out : s.requestOutcome (s.manualAction o .closeRelay) = .accepted) :
    s.closeManual o =
      (((s.enqueue (s.manualAction o .closeRelay)).setOutlet o (s.outlet o).restored).choose).reply 49 .ok [] := by
  rw [State.closeManual, out]

/-- Settles O25: a faulted outlet or another reason is refused; a manually open one goes by what is pending. -/
theorem outletCloseActsByStanding : Obligations.OutletCloseActsByStanding := by
  intro b more pins s o held hp ho r x answers appended
  have run := exec_outletClose (more := more) (pins := pins) held hp ho
  refine ⟨fun hf => ?_, fun he hr => ?_⟩
  · refine run.trans ?_
    rw [if_pos hf]
    rfl
  have notRefused : ¬ ((s.outlet o).actuator = .faulted ∨ (s.outlet o).reason ≠ .manual) := by
    rw [show (s.outlet o).actuator = .enabled from he, show (s.outlet o).reason = .manual from hr]
    decide
  have run := run.trans (congrArg _ (if_neg notRefused))
  let u := s.commandStart r pins
  have lane : (u.manualAction o .closeRelay).lane = .standard := Action.lane_manual ..
  refine ⟨fun hn room => ?_, fun hn full => ?_, fun a ha hk room => ?_, fun a ha hk hl full => ?_,
    fun p hq hk => ?_, fun a ha hk => ?_, fun p hq hk => ?_⟩
  all_goals refine run.trans (congrArg _ ?_)
  · have free : u.pendingFor (u.manualAction o .closeRelay).outlet = none := hn
    rw [State.closeManual_accepted (s := u) (State.requestOutcome_room free lane room),
      State.enqueue_standard free lane]
    rfl
  · exact State.closeManual_full (s := u) (State.requestOutcome_full hn lane full)
  · have pending : u.pendingFor (u.manualAction o .closeRelay).outlet = some ⟨a, false⟩ := ha
    have differs : a.kind ≠ (u.manualAction o .closeRelay).kind := by rw [hk]; exact nofun
    have out := State.requestOutcome_over_standard pending (by simp [hk]) differs lane
      (room.imp_right fun ⟨h, e⟩ => ⟨h, e.le⟩)
    rw [State.closeManual_accepted (s := u) out, State.enqueue_standard_over (s := u) pending lane, hk]
    rfl
  · have pending : u.pendingFor (u.manualAction o .closeRelay).outlet = some ⟨a, false⟩ := ha
    have differs : a.kind ≠ (u.manualAction o .closeRelay).kind := by rw [hk]; exact nofun
    exact State.closeManual_full (s := u)
      (State.requestOutcome_over_full pending (by simp [hk]) differs lane (by simp [hl]) full)
  · exact State.closeManual_merged (s := u) hq hk
  · have differs : a.kind ≠ (u.manualAction o .closeRelay).kind := by rw [hk]; exact nofun
    exact State.closeManual_busy (s := u) (State.requestOutcome_inFlight (s := u) ha differs)
  · exact State.closeManual_busy (s := u) (State.requestOutcome_rearm (s := u) hq hk)

end Sys2Proof.Machine
end

section
/-! The candidates of R102, R104, R110, R111, R126 and R129: what `pick` chooses, and of which outlets and entries. -/

namespace Sys2Proof.Machine

open Sys2Proof.Safety Sys2Proof.Claims

variable {s : State} {k : SlotIx} {b : BranchIx} {o : OutletIx}

/-! ### What `pick` chooses -/

theorem foldl_best_eq_self {α : Type} {before : α → α → Bool} {x : α} :
    ∀ {l : List α}, (∀ y ∈ l, before y x = false) → l.foldl (fun best y => if before y best then y else best) x = x
  | [], _ => rfl
  | y :: l, h => by
    rw [List.foldl_cons, h y (by simp)]
    exact foldl_best_eq_self fun z hz => h z (by simp [hz])

/-- An element that comes before each earlier one, and that no later one comes before, is chosen. -/
theorem pick_append_cons {α : Type} {before : α → α → Bool} {l₁ l₂ : List α} {x : α}
    (earlier : ∀ y ∈ l₁, before x y = true) (later : ∀ y ∈ l₂, before y x = false) :
    pick before (l₁ ++ x :: l₂) = some x := by
  cases l₁ with
  | nil => exact congrArg some (foldl_best_eq_self later)
  | cons a l₁ =>
    have best := earlier _ (pick_mem (before := before) (l := a :: l₁) rfl)
    rw [List.cons_append, pick, List.foldl_append, List.foldl_cons, if_pos best, foldl_best_eq_self later]

theorem pick_concat {α : Type} {before : α → α → Bool} {l : List α} {x a : α} (h : pick before l = some x) :
    pick before (l ++ [a]) = some (if before a x then a else x) := by
  cases l with
  | nil => simp [pick] at h
  | cons c l =>
    simp only [pick, Option.some.injEq] at h
    simp [pick, h]

/-- The element chosen comes before each earlier one, and no later one comes before it: with elements equal under the
order, the earliest is chosen. -/
theorem pick_split {α : Type} {before : α → α → Bool} (asymm : ∀ x y, before x y = true → before y x = false)
    (trans : ∀ x y z, before x y = false → before y z = false → before x z = false) {l : List α} {x : α}
    (h : pick before l = some x) :
    ∃ l₁ l₂, l = l₁ ++ x :: l₂ ∧ (∀ y ∈ l₁, before x y = true) ∧ ∀ y ∈ l₂, before y x = false := by
  induction l using List.reverseRecOn generalizing x with
  | nil => simp [pick] at h
  | append_singleton l a ih =>
    cases hl : pick before l with
    | none =>
      obtain rfl := pick_eq_none.mp hl
      obtain rfl : a = x := by simpa [pick] using h
      exact ⟨[], [], rfl, by simp, by simp⟩
    | some c =>
      obtain ⟨l₁, l₂, rfl, earlier, later⟩ := ih hl
      rw [pick_concat hl, Option.some.injEq] at h
      cases hac : before a c with
      | false =>
        obtain rfl : c = x := by simpa [hac] using h
        refine ⟨l₁, l₂ ++ [a], by simp, earlier, fun y hy => ?_⟩
        rcases List.mem_append.mp hy with hy | hy
        · exact later y hy
        · rwa [List.mem_singleton.mp hy]
      | true =>
        obtain rfl : a = x := by simpa [hac] using h
        have beats : ∀ y, before y c = false → before a y = true := fun y hy => by
          cases hay : before a y with
          | true => rfl
          | false => exact absurd hac (by simp [trans a y c hay hy])
        refine ⟨l₁ ++ c :: l₂, [], by simp, fun y hy => ?_, by simp⟩
        rcases List.mem_append.mp hy with hy | hy
        · exact beats y (asymm c y (earlier y hy))
        · rcases List.mem_cons.mp hy with rfl | hy
          · exact hac
          · exact beats y (later y hy)

/-- The choice among candidates listed in ascending order of their outlets. -/
theorem pick_ascending_iff {α : Type} {before : α → α → Bool} (asymm : ∀ x y, before x y = true → before y x = false)
    (trans : ∀ x y z, before x y = false → before y z = false → before x z = false) {l : List OutletIx}
    (ascending : l.Pairwise (· < ·)) (f : OutletIx → α) {x : α} :
    pick before (l.map f) = some x ↔
      ∃ o ∈ l, f o = x ∧ ∀ o' ∈ l,
        (o' < o → before (f o) (f o') = true) ∧ (o ≤ o' → before (f o') (f o) = false) := by
  have irrefl : ∀ x, before x x = false := fun x => by
    cases hx : before x x with
    | false => rfl
    | true => exact absurd (asymm x x hx) (by simp [hx])
  have split : ∀ {l₁ l₂ : List OutletIx} {o : OutletIx}, l = l₁ ++ o :: l₂ →
      (∀ o' ∈ l₁, o' < o) ∧ ∀ o' ∈ l₂, o < o' := by
    rintro l₁ l₂ o rfl
    obtain ⟨-, h₂, h₁⟩ := List.pairwise_append.mp ascending
    exact ⟨fun o' ho' => h₁ o' ho' o (by simp), (List.pairwise_cons.mp h₂).1⟩
  constructor
  · intro h
    obtain ⟨m₁, m₂, hm, earlier, later⟩ := pick_split asymm trans h
    obtain ⟨l₁, l', rfl, rfl, h'⟩ := List.map_eq_append_iff.mp hm
    obtain ⟨o, l₂, rfl, rfl, rfl⟩ := List.map_eq_cons_iff.mp h'
    obtain ⟨lt₁, lt₂⟩ := split rfl
    refine ⟨o, by simp, rfl, fun o' ho' => ⟨fun hlt => ?_, fun hle => ?_⟩⟩
    · rcases List.mem_append.mp ho' with ho' | ho'
      · exact earlier _ (List.mem_map_of_mem ho')
      · rcases List.mem_cons.mp ho' with rfl | ho'
        · exact absurd hlt (lt_irrefl _)
        · exact absurd hlt (lt_asymm (lt₂ o' ho'))
    · rcases List.mem_append.mp ho' with ho' | ho'
      · exact absurd hle (not_le.mpr (lt₁ o' ho'))
      · rcases List.mem_cons.mp ho' with rfl | ho'
        · exact irrefl _
        · exact later _ (List.mem_map_of_mem ho')
  · rintro ⟨o, ho, rfl, best⟩
    obtain ⟨l₁, l₂, hl⟩ := List.append_of_mem ho
    obtain ⟨lt₁, lt₂⟩ := split hl
    subst hl
    rw [List.map_append, List.map_cons]
    refine pick_append_cons (fun y hy => ?_) fun y hy => ?_
    · obtain ⟨o', ho', rfl⟩ := List.mem_map.mp hy
      exact (best o' (by simp [ho'])).1 (lt₁ o' ho')
    · obtain ⟨o', ho', rfl⟩ := List.mem_map.mp hy
      exact (best o' (by simp [ho'])).2 (lt₂ o' ho').le

/-! ### The two orders of own candidates -/

theorem shedBefore_iff {a c : OwnCandidate} :
    shedBefore a c = true ↔ a.rank < c.rank ∨ a.rank = c.rank ∧ c.draw < a.draw := by simp [shedBefore]

theorem shedBefore_eq_false_iff {a c : OwnCandidate} :
    shedBefore a c = false ↔ c.rank < a.rank ∨ a.rank = c.rank ∧ a.draw ≤ c.draw := by
  rw [← Bool.not_eq_true, shedBefore_iff]
  omega

theorem restoreBefore_iff {a c : OwnCandidate} :
    restoreBefore a c = true ↔ c.rank < a.rank ∨ a.rank = c.rank ∧ a.draw < c.draw := by simp [restoreBefore]

theorem restoreBefore_eq_false_iff {a c : OwnCandidate} :
    restoreBefore a c = false ↔ a.rank < c.rank ∨ a.rank = c.rank ∧ c.draw ≤ a.draw := by
  rw [← Bool.not_eq_true, restoreBefore_iff]
  omega

/-- The shed choice (R102, R126): the lowest rank, then the highest draw, then the lowest index. -/
theorem pick_shedBefore_iff {l : List OutletIx} (ascending : l.Pairwise (· < ·)) {rank draw : OutletIx → Nat}
    {c : OwnCandidate} :
    pick shedBefore (l.map fun o => ⟨o, rank o, draw o⟩) = some c ↔
      (c.outlet ∈ l ∧ ∀ o' ∈ l, rank c.outlet < rank o' ∨
        rank c.outlet = rank o' ∧ (draw o' < draw c.outlet ∨ draw o' = draw c.outlet ∧ c.outlet ≤ o')) ∧
      c.rank = rank c.outlet ∧ c.draw = draw c.outlet := by
  rw [pick_ascending_iff (fun x y => by rw [shedBefore_iff, shedBefore_eq_false_iff]; omega)
    (fun x y z => by simp only [shedBefore_eq_false_iff]; omega) ascending]
  simp only [shedBefore_iff, shedBefore_eq_false_iff]
  constructor
  · rintro ⟨o, ho, rfl, best⟩
    refine ⟨⟨ho, fun o' ho' => ?_⟩, rfl, rfl⟩
    obtain ⟨below, above⟩ := best o' ho'
    rcases lt_or_ge o' o with hlt | hle
    · exact (below hlt).imp_right (And.imp_right .inl)
    · exact (above hle).imp_right fun ⟨hr, hd⟩ => ⟨hr.symm, hd.lt_or_eq.imp_right (⟨·, hle⟩)⟩
  · rintro ⟨⟨ho, best⟩, hr, hd⟩
    refine ⟨c.outlet, ho, by rw [← hr, ← hd], fun o' ho' => ⟨fun hlt => ?_, fun hle => ?_⟩⟩
    · exact (best o' ho').imp_right fun ⟨hr, hd⟩ => ⟨hr, hd.resolve_right fun h => absurd hlt (not_lt.mpr h.2)⟩
    · exact (best o' ho').imp_right fun ⟨hr, hd⟩ => ⟨hr.symm, hd.elim le_of_lt fun h => h.1.le⟩

/-- The restore choice (R110, R129): the highest rank, then the smallest draw, then the lowest index. -/
theorem pick_restoreBefore_iff {l : List OutletIx} (ascending : l.Pairwise (· < ·)) {rank draw : OutletIx → Nat}
    {c : OwnCandidate} :
    pick restoreBefore (l.map fun o => ⟨o, rank o, draw o⟩) = some c ↔
      (c.outlet ∈ l ∧ ∀ o' ∈ l, rank o' < rank c.outlet ∨
        rank o' = rank c.outlet ∧ (draw c.outlet < draw o' ∨ draw c.outlet = draw o' ∧ c.outlet ≤ o')) ∧
      c.rank = rank c.outlet ∧ c.draw = draw c.outlet := by
  rw [pick_ascending_iff (fun x y => by rw [restoreBefore_iff, restoreBefore_eq_false_iff]; omega)
    (fun x y z => by simp only [restoreBefore_eq_false_iff]; omega) ascending]
  simp only [restoreBefore_iff, restoreBefore_eq_false_iff]
  constructor
  · rintro ⟨o, ho, rfl, best⟩
    refine ⟨⟨ho, fun o' ho' => ?_⟩, rfl, rfl⟩
    obtain ⟨below, above⟩ := best o' ho'
    rcases lt_or_ge o' o with hlt | hle
    · exact (below hlt).imp_right fun ⟨hr, hd⟩ => ⟨hr.symm, .inl hd⟩
    · exact (above hle).imp_right fun ⟨hr, hd⟩ => ⟨hr, hd.lt_or_eq.imp_right (⟨·, hle⟩)⟩
  · rintro ⟨⟨ho, best⟩, hr, hd⟩
    refine ⟨c.outlet, ho, by rw [← hr, ← hd], fun o' ho' => ⟨fun hlt => ?_, fun hle => ?_⟩⟩
    · exact (best o' ho').imp_right fun ⟨hr, hd⟩ =>
        ⟨hr.symm, hd.resolve_right fun h => absurd hlt (not_lt.mpr h.2)⟩
    · exact (best o' ho').imp_right fun ⟨hr, hd⟩ => ⟨hr, hd.elim le_of_lt fun h => h.1.le⟩

/-! ### The outlets that may be chosen -/

theorem allOutlets_filter_ascending (p : OutletIx → Bool) : (allOutlets.filter p).Pairwise (· < ·) :=
  (List.sortedLT_finRange 48).pairwise.filter p

theorem mem_allOutlets_filter {p : OutletIx → Bool} : o ∈ allOutlets.filter p ↔ p o = true := by simp [allOutlets]

theorem outletsOf_filter_ascending (b : BranchIx) (p : OutletIx → Bool) :
    ((outletsOf b).filter p).Pairwise (· < ·) := (allOutlets_filter_ascending _).filter p

theorem branchOf_eq_iff : branchOf o = b ↔ o.val / 8 = b.val := by simp [branchOf, Fin.ext_iff]

theorem Draw.byMode_eq (d : Draw) (m : CountMode) : d.byMode m = inMode m d := by cases m <;> rfl

theorem State.branchPending_iff : s.branchPending o = true ↔ BranchActionFor s o := by
  unfold State.branchPending BranchActionFor
  cases s.pendingFor o with
  | none => simp
  | some p => simp

theorem State.mayShed_iff : s.mayShed k o = true ↔ MayShed s k o := by
  simp [State.mayShed, MayShed, State.hasPending, and_assoc]

theorem State.mayRestore_iff : s.mayRestore k o = true ↔ MayRestore s k o := by
  simp [State.mayRestore, MayRestore, State.hasPending, and_assoc]

theorem mem_mayTrip : o ∈ (outletsOf b).filter s.mayTrip ↔ MayTrip s b o := by
  rw [List.mem_filter, mem_outletsOf, branchOf_eq_iff, MayTrip, ← State.branchPending_iff]
  simp [State.mayTrip, and_assoc]

theorem mem_mayBranchRestore : o ∈ (outletsOf b).filter s.mayBranchRestore ↔ MayBranchRestore s b o := by
  rw [List.mem_filter, mem_outletsOf, branchOf_eq_iff, MayBranchRestore]
  simp [State.mayBranchRestore, State.hasPending, and_assoc]

/-! ### The own candidates -/

theorem State.ownShed_eq_some_iff {c : OwnCandidate} :
    s.ownShed k = some c ↔
      IsOwnShed s k c.outlet ∧ c.rank = (s.outlet c.outlet).rank.val ∧
        c.draw = inMode (s.tenant k).mode (s.counted c.outlet) := by
  rw [State.ownShed, pick_shedBefore_iff (allOutlets_filter_ascending _)]
  simp only [mem_allOutlets_filter, State.mayShed_iff, State.countedValue, Draw.byMode_eq]
  rfl

theorem State.ownShed_of_isOwnShed (h : IsOwnShed s k o) :
    s.ownShed k = some ⟨o, (s.outlet o).rank.val, inMode (s.tenant k).mode (s.counted o)⟩ :=
  State.ownShed_eq_some_iff.mpr ⟨h, rfl, rfl⟩

theorem State.ownShed_eq_none_iff : s.ownShed k = none ↔ ∀ o, ¬ MayShed s k o := by
  rw [State.ownShed, pick_eq_none, List.map_eq_nil_iff, List.eq_nil_iff_forall_not_mem]
  simp only [mem_allOutlets_filter, State.mayShed_iff]

theorem State.ownRestore_eq_some_iff {c : OwnCandidate} :
    s.ownRestore k = some c ↔
      IsOwnRestore s k c.outlet ∧ c.rank = (s.outlet c.outlet).rank.val ∧ c.draw = rememberedValue s k c.outlet := by
  rw [State.ownRestore, pick_restoreBefore_iff (allOutlets_filter_ascending _)]
  simp only [mem_allOutlets_filter, State.mayRestore_iff, Draw.byMode_eq]
  rfl

theorem State.ownRestore_of_isOwnRestore (h : IsOwnRestore s k o) :
    s.ownRestore k = some ⟨o, (s.outlet o).rank.val, rememberedValue s k o⟩ :=
  State.ownRestore_eq_some_iff.mpr ⟨h, rfl, rfl⟩

theorem State.ownRestore_eq_none_iff : s.ownRestore k = none ↔ ∀ o, ¬ MayRestore s k o := by
  rw [State.ownRestore, pick_eq_none, List.map_eq_nil_iff, List.eq_nil_iff_forall_not_mem]
  simp only [mem_allOutlets_filter, State.mayRestore_iff]

/-! ### The branch's candidates -/

theorem State.tripCandidate_of_isTripCandidate (h : IsTripCandidate s b o) :
    s.tripCandidate b = some ⟨o, (s.outlet o).rank.val, (s.counted o).i⟩ := by
  rw [State.tripCandidate, pick_shedBefore_iff (outletsOf_filter_ascending b _)]
  simp only [mem_mayTrip]
  exact ⟨h, trivial, trivial⟩

theorem State.tripCandidate_eq_none_iff : s.tripCandidate b = none ↔ ∀ o, ¬ MayTrip s b o := by
  rw [State.tripCandidate, pick_eq_none, List.map_eq_nil_iff, List.eq_nil_iff_forall_not_mem]
  simp only [mem_mayTrip]

theorem State.branchRestoreCandidate_of_isBranchRestore (h : IsBranchRestore s b o) :
    s.branchRestoreCandidate b = some ⟨o, (s.outlet o).rank.val, (rememberedOf s o).i⟩ := by
  rw [State.branchRestoreCandidate, pick_restoreBefore_iff (outletsOf_filter_ascending b _)]
  simp only [mem_mayBranchRestore]
  exact ⟨h, trivial, rfl⟩

theorem State.branchRestoreCandidate_eq_none_iff :
    s.branchRestoreCandidate b = none ↔ ∀ o, ¬ MayBranchRestore s b o := by
  rw [State.branchRestoreCandidate, pick_eq_none, List.map_eq_nil_iff, List.eq_nil_iff_forall_not_mem]
  simp only [mem_mayBranchRestore]

/-! ### The row's candidates -/

theorem State.mem_candidateEntries {e : DynEntry} : e ∈ s.candidateEntries k ↔ EntryInView s k e := by
  simp only [State.candidateEntries, State.freshEntriesOf, State.entriesOf, DynEntry.stale, EntryInView, allPlaces,
    List.mem_filter, List.mem_filterMap, List.mem_finRange, true_and, beq_iff_eq, Option.isNone_iff_eq_none,
    Bool.not_eq_true', decide_eq_false_iff_not, not_le, and_assoc]

theorem State.mem_peerShed {c : RowCandidate} :
    c ∈ s.peerShed k ↔ ∃ e d, EntryInView s k e ∧ e.shed = some d ∧ c = ⟨d.rank, e.station, d.draw, none⟩ := by
  simp only [State.peerShed, List.mem_filterMap, State.mem_candidateEntries, Option.map_eq_some_iff]
  constructor
  · rintro ⟨e, he, d, hd, rfl⟩
    exact ⟨e, d, he, hd, rfl⟩
  · rintro ⟨e, d, he, hd, rfl⟩
    exact ⟨e, he, d, hd, rfl⟩

theorem State.mem_peerRestore {c : RowCandidate} :
    c ∈ s.peerRestore k ↔ ∃ e d, EntryInView s k e ∧ e.restore = some d ∧ c = ⟨d.rank, e.station, d.draw, none⟩ := by
  simp only [State.peerRestore, List.mem_filterMap, State.mem_candidateEntries, Option.map_eq_some_iff]
  constructor
  · rintro ⟨e, he, d, hd, rfl⟩
    exact ⟨e, d, he, hd, rfl⟩
  · rintro ⟨e, d, he, hd, rfl⟩
    exact ⟨e, he, d, hd, rfl⟩

theorem rowShedBefore_iff {a c : RowCandidate} :
    rowShedBefore a c = true ↔ shedsFirst a.rank a.station c.rank c.station := by simp [rowShedBefore, shedsFirst]

theorem rowRestoreBefore_iff {a c : RowCandidate} :
    rowRestoreBefore a c = true ↔ restoresFirst a.rank a.station c.rank c.station := by
  simp [rowRestoreBefore, restoresFirst]

/-- What the row's order chooses for a shed is of the list, and nothing of the list comes before it. -/
theorem State.firstShed_spec {c : RowCandidate} (h : s.firstShed k = some c) :
    (c ∈ ((s.ownShed k).map s.ownInRow).toList ∨ c ∈ s.peerShed k) ∧
      ∀ d, d ∈ ((s.ownShed k).map s.ownInRow).toList ∨ d ∈ s.peerShed k →
        ¬ shedsFirst d.rank d.station c.rank c.station := by
  have spec := pick_spec (fun x y => by simp only [← Bool.not_eq_true, rowShedBefore_iff, shedsFirst]; omega)
    (fun x y z => by simp only [← Bool.not_eq_true, rowShedBefore_iff, shedsFirst]; omega) h
  simpa only [List.mem_append, ← Bool.not_eq_true, rowShedBefore_iff] using spec

theorem State.bestRestore_spec {c : RowCandidate} (h : s.bestRestore k = some c) :
    (c ∈ ((s.ownRestore k).map s.ownInRow).toList ∨ c ∈ s.peerRestore k) ∧
      ∀ d, d ∈ ((s.ownRestore k).map s.ownInRow).toList ∨ d ∈ s.peerRestore k →
        ¬ restoresFirst d.rank d.station c.rank c.station := by
  have spec := pick_spec (fun x y => by simp only [← Bool.not_eq_true, rowRestoreBefore_iff, restoresFirst]; omega)
    (fun x y z => by simp only [← Bool.not_eq_true, rowRestoreBefore_iff, restoresFirst]; omega) h
  simpa only [List.mem_append, ← Bool.not_eq_true, rowRestoreBefore_iff] using spec

end Sys2Proof.Machine
end

section
/-! Curtailment: a slot's items in the CUR, the election that takes effect, and which candidate an election takes. -/

namespace Sys2Proof.Machine

open Sys2Proof.Safety Sys2Proof.Claims

variable {s u : State} {k : SlotIx} {o : OutletIx}

/-! ### A slot's items -/

section
variable {settle : Timer} {hold : Nat} {flag : Bool} (h : u.cur = (withItems s k settle hold flag).cur)
include h

theorem curSlot_of_items :
    u.curSlot k = { s.curSlot k with settle := settle, hold := hold, uncurtailable := flag } := by
  rw [State.curSlot, h]
  simp [withItems, withSlotItems]

theorem setCurSlot_of_items (x : CurSlot) : u.setCurSlot k x = { u with cur := (withSlotItems s k x).cur } := by
  rw [State.setCurSlot, h]
  simp [withItems, withSlotItems]

theorem setHold_of_items (n : Nat) : u.setHold k n = { u with cur := (withItems s k settle n flag).cur } := by
  rw [State.setHold, curSlot_of_items h, setCurSlot_of_items h]
  rfl

end

/-- A settle timer that is stopped is started with no run of the moment to mark. -/
theorem startSettle_of_items {hold : Nat} {flag : Bool} (h : u.cur = (withItems s k none hold flag).cur) :
    u.startSettle k = { u with cur := (withItems s k (some (u.station.settleTallies * 250000)) hold flag).cur } := by
  rw [State.startSettle, curSlot_of_items h, setCurSlot_of_items h]
  simp [CurSlot.restart, Timer.due, withItems, State.settleTicks, Config.secondTicks, Config.ticksPerMs]

@[simp] theorem withItems_slot (s : State) (k j : SlotIx) (settle : Timer) (hold : Nat) (flag : Bool) :
    (withItems s k settle hold flag).slot j = s.slot j := rfl

/-- Step 2 of R101 leaves an OVER slot its mark alone. -/
theorem curtailSlot_of_overdrawn (hu : s.inUse k = true) (hs : (s.slot k).state = .overdrawn)
    (ht : (s.curSlot k).settle = none) (n : Nat) :
    s.curtailSlot n k = (withItems s k none 0 (s.curSlot k).uncurtailable).shedElection k n := by
  have fresh : s.setCurSlot k ((s.curSlot k).refresh (s.slot k).state) =
      withItems s k none 0 (s.curSlot k).uncurtailable := by
    simp [withItems, withSlotItems, State.setCurSlot, CurSlot.refresh, hs, ht]
  have stopped := congrArg CurSlot.settle
    (curSlot_of_items (s := s) (k := k) (u := withItems s k none 0 (s.curSlot k).uncurtailable) rfl)
  unfold State.curtailSlot
  dsimp only
  rw [fresh]
  simp [hu, hs, stopped]

/-- Step 2 of R101 leaves a slot in RECOVERY its hold counter alone. -/
theorem curtailSlot_of_recovery (hu : s.inUse k = true) (hs : (s.slot k).state = .recovery)
    (ht : (s.curSlot k).settle = none) (n : Nat) :
    s.curtailSlot n k = (withItems s k none (s.curSlot k).hold false).restoreTest k n := by
  have unmarked : (TenantState.recovery == TenantState.overdrawn) = false := rfl
  have fresh : s.setCurSlot k ((s.curSlot k).refresh (s.slot k).state) =
      withItems s k none (s.curSlot k).hold false := by
    simp [withItems, withSlotItems, State.setCurSlot, CurSlot.refresh, hs, ht, unmarked]
  have stopped := congrArg CurSlot.settle
    (curSlot_of_items (s := s) (k := k) (u := withItems s k none (s.curSlot k).hold false) rfl)
  unfold State.curtailSlot
  dsimp only
  rw [fresh]
  simp [hu, hs, stopped]

/-! ### The election that takes effect -/

theorem State.sendNote_eq (s : State) (id : Nat) (d : NoteDirection) (rank draw : Nat) :
    s.sendNote id d rank draw =
      { s with rlc :=
          if s.rlc.link = .active ∨ s.rlc.link = .down then s.rlc.putNote (.note id d rank draw (s.tly.count % 256))
          else s.rlc } := by
  unfold State.sendNote Rlc.accepts State.intervalStamp
  cases s.rlc.link <;> rfl

theorem electShed_eq (free : s.pendingFor o = none) {id : Nat} (hid : (s.tenant k).tenantId = some id) (flag : Bool)
    (n rank draw : Nat) :
    (withItems s k none 0 flag).electShed k n o rank draw =
      (elected s k o ((s.outlet o).opened .tenant (s.counted o)) .openRelay
        (.note id .shed rank draw (s.tly.count % 256)) n (.shedElected k o rank draw) flag).chooseAt n := by
  have lane : (tenantAction k o .openRelay).lane = .standard := Action.lane_tenant ..
  have pending : (withItems s k none 0 flag).pendingFor (tenantAction k o .openRelay).outlet = none := free
  have idOf : s.tenantIdOf k = id := by simp [State.tenantIdOf, hid]
  unfold State.electShed
  dsimp only
  rw [State.enqueue_standard pending lane, State.sendNote_eq, State.raiseAt_eq,
    startSettle_of_items (s := s) (hold := 0) (flag := flag)]
  · subst idOf
    rfl
  · rfl

theorem electRestore_eq (free : s.pendingFor o = none) {id : Nat} (hid : (s.tenant k).tenantId = some id)
    (hold n rank draw : Nat) :
    (withItems s k none hold false).electRestore k n o rank draw =
      (elected s k o (s.outlet o).restored .closeRelay
        (.note id .restore rank draw (s.tly.count % 256)) n (.restoreElected k o rank draw) false).chooseAt n := by
  have lane : (tenantAction k o .closeRelay).lane = .standard := Action.lane_tenant ..
  have pending : (withItems s k none hold false).pendingFor (tenantAction k o .closeRelay).outlet = none := free
  have idOf : s.tenantIdOf k = id := by simp [State.tenantIdOf, hid]
  unfold State.electRestore
  dsimp only
  rw [State.enqueue_standard pending lane, State.sendNote_eq, State.raiseAt_eq,
    startSettle_of_items (s := s) (hold := hold) (flag := false),
    setHold_of_items (s := s) (settle := some (s.station.settleTallies * 250000)) (hold := hold) (flag := false)]
  · subst idOf
    rfl
  · rfl
  · rfl

/-! ### Shed -/

/-- With no candidate in view the slot is marked, with one notice (R109). -/
theorem firstShed_eq_none (own : ∀ o, ¬ MayShed s k o) (peers : ∀ e, EntryInView s k e → e.shed = none) :
    s.firstShed k = none := by
  have hp : s.peerShed k = [] := List.eq_nil_iff_forall_not_mem.mpr fun c hc => by
    obtain ⟨e, d, he, hd, -⟩ := State.mem_peerShed.mp hc
    rw [peers e he] at hd
    cases hd
  rw [State.firstShed, pick_eq_none, State.ownShed_eq_none_iff.mpr own, hp]
  rfl

/-- A peer's candidate that comes before the own one keeps the own one from being first (R106). -/
theorem firstShed_of_peer {e : DynEntry} {c : Candidate} (he : EntryInView s k e) (hc : e.shed = some c)
    (first : ∀ o, IsOwnShed s k o → shedsFirst c.rank e.station (s.outlet o).rank.val s.station.id) :
    ∃ d, s.firstShed k = some d ∧ d.own = none := by
  have peer := State.mem_peerShed.mpr ⟨e, c, he, hc, rfl⟩
  cases hf : s.firstShed k with
  | none =>
    rw [State.firstShed, pick_eq_none, List.append_eq_nil_iff] at hf
    rw [hf.2] at peer
    cases peer
  | some d =>
    obtain ⟨mem, least⟩ := State.firstShed_spec hf
    refine ⟨d, rfl, ?_⟩
    rcases mem with mem | mem
    · obtain ⟨a, ha, rfl⟩ := Option.map_eq_some_iff.mp (Option.mem_toList.mp mem)
      obtain ⟨is, hr, -⟩ := State.ownShed_eq_some_iff.mp ha
      have before : shedsFirst c.rank e.station a.rank s.station.id := by
        rw [hr]
        exact first _ is
      exact absurd before (least _ (.inr peer))
    · obtain ⟨_, _, -, -, rfl⟩ := State.mem_peerShed.mp mem
      rfl

/-- The own candidate is first when no peer's comes before it (R106). -/
theorem firstShed_of_own (is : IsOwnShed s k o)
    (first : ∀ e c, EntryInView s k e → e.shed = some c →
      ¬ shedsFirst c.rank e.station (s.outlet o).rank.val s.station.id) :
    s.firstShed k = some
      ⟨(s.outlet o).rank.val, s.station.id, inMode (s.tenant k).mode (s.counted o), some o⟩ := by
  rw [State.firstShed, State.ownShed_of_isOwnShed is]
  refine pick_append_cons (l₁ := []) (by simp) fun c hc => ?_
  obtain ⟨e, d, he, hd, rfl⟩ := State.mem_peerShed.mp hc
  rw [← Bool.not_eq_true, rowShedBefore_iff]
  exact first e d he hd

theorem State.shedElection_of_none (h : u.firstShed k = none) (n : Nat) : u.shedElection k n = u.uncurtailable k n := by
  simp [State.shedElection, h]

theorem State.shedElection_of_peer {d : RowCandidate} (h : u.firstShed k = some d) (hd : d.own = none) (n : Nat) :
    u.shedElection k n = u := by
  simp [State.shedElection, h, hd]

theorem State.shedElection_of_own {rank station draw : Nat} (h : u.firstShed k = some ⟨rank, station, draw, some o⟩)
    (n : Nat) :
    (u.requestOutcome (tenantAction k o .openRelay) = .accepted →
      u.shedElection k n = u.electShed k n o rank draw) ∧
    (u.requestOutcome (tenantAction k o .openRelay) = .queueFull → u.shedElection k n = u) :=
  ⟨fun out => by simp [State.shedElection, h, out], fun out => by simp [State.shedElection, h, out]⟩

/-- R109's test on a slot brought up to date. -/
theorem uncurtailable_eq (flag : Bool) (n : Nat) :
    (withItems s k none 0 flag).uncurtailable k n =
      { withItems s k none 0 true with
        nq := if flag then s.nq else raisedAll s.station n [.uncurtailable k] s.nq } := by
  unfold State.uncurtailable
  rw [curSlot_of_items (s := s) rfl]
  cases flag
  · dsimp only
    rw [if_neg (by decide), setCurSlot_of_items (s := s) rfl, State.raiseAt_eq]
    rfl
  · rfl

/-- Settles O37: the row's first candidate by case, and what its election does. -/
theorem shedElectionTakesTheFirst : Obligations.ShedElectionTakesTheFirst := by
  intro s k n hu hs ht flag x
  have worked := curtailSlot_of_overdrawn hu hs ht n
  let u := withItems s k none 0 flag
  refine ⟨fun own peers => ?_, fun e c he hc first => ?_, fun o is first => ?_⟩
  · have none : u.firstShed k = none := firstShed_eq_none own peers
    rw [worked, State.shedElection_of_none none, uncurtailable_eq]
  · obtain ⟨d, hd, hp⟩ := firstShed_of_peer he hc first
    have peer : u.firstShed k = some d := hd
    rw [worked, State.shedElection_of_peer peer hp]
  · have own : u.firstShed k = some _ := firstShed_of_own is first
    obtain ⟨accepted, full⟩ := State.shedElection_of_own own n
    obtain ⟨⟨-, -, -, -, -, free⟩, -⟩ := is
    have pending : u.pendingFor (tenantAction k o .openRelay).outlet = none := free
    refine ⟨fun room id hid => ?_, fun noRoom => ?_⟩
    · rw [worked, accepted (State.requestOutcome_room pending (Action.lane_tenant ..) room), electShed_eq free hid]
      rfl
    · rw [worked, full (State.requestOutcome_full pending (Action.lane_tenant ..) noRoom)]

/-! ### Restore -/

theorem bestRestore_eq_none (own : ∀ o, ¬ MayRestore s k o) (peers : ∀ e, EntryInView s k e → e.restore = none) :
    s.bestRestore k = none := by
  have hp : s.peerRestore k = [] := List.eq_nil_iff_forall_not_mem.mpr fun c hc => by
    obtain ⟨e, d, he, hd, -⟩ := State.mem_peerRestore.mp hc
    rw [peers e he] at hd
    cases hd
  rw [State.bestRestore, pick_eq_none, State.ownRestore_eq_none_iff.mpr own, hp]
  rfl

/-- A peer's candidate that comes before every other is the best (R111). -/
theorem bestRestore_of_peer {e : DynEntry} {c : Candidate} (he : EntryInView s k e) (hc : e.restore = some c)
    (first : ∀ o, IsOwnRestore s k o → restoresFirst c.rank e.station (s.outlet o).rank.val s.station.id)
    (peers : ∀ e' c', EntryInView s k e' → e'.restore = some c' →
      e' = e ∨ restoresFirst c.rank e.station c'.rank e'.station) :
    s.bestRestore k = some ⟨c.rank, e.station, c.draw, none⟩ := by
  have peer := State.mem_peerRestore.mpr ⟨e, c, he, hc, rfl⟩
  cases hf : s.bestRestore k with
  | none =>
    rw [State.bestRestore, pick_eq_none, List.append_eq_nil_iff] at hf
    rw [hf.2] at peer
    cases peer
  | some d =>
    obtain ⟨mem, least⟩ := State.bestRestore_spec hf
    rcases mem with mem | mem
    · obtain ⟨a, ha, rfl⟩ := Option.map_eq_some_iff.mp (Option.mem_toList.mp mem)
      obtain ⟨is, hr, -⟩ := State.ownRestore_eq_some_iff.mp ha
      have before : restoresFirst c.rank e.station a.rank s.station.id := by
        rw [hr]
        exact first _ is
      exact absurd before (least _ (.inr peer))
    · obtain ⟨e', c', he', hc', rfl⟩ := State.mem_peerRestore.mp mem
      obtain rfl : e' = e := (peers e' c' he' hc').resolve_right (least _ (.inr peer))
      obtain rfl : c = c' := Option.some.inj (hc.symm.trans hc')
      rfl

/-- The own candidate is the best when no peer's comes before it (R111). -/
theorem bestRestore_of_own (is : IsOwnRestore s k o)
    (first : ∀ e c, EntryInView s k e → e.restore = some c →
      ¬ restoresFirst c.rank e.station (s.outlet o).rank.val s.station.id) :
    s.bestRestore k = some ⟨(s.outlet o).rank.val, s.station.id, rememberedValue s k o, some o⟩ := by
  rw [State.bestRestore, State.ownRestore_of_isOwnRestore is]
  refine pick_append_cons (l₁ := []) (by simp) fun c hc => ?_
  obtain ⟨e, d, he, hd, rfl⟩ := State.mem_peerRestore.mp hc
  rw [← Bool.not_eq_true, rowRestoreBefore_iff]
  exact first e d he hd

/-- The restore test (R112) on a slot brought up to date, by its best candidate. -/
theorem restoreTest_of_unfit {c : RowCandidate} (best : s.bestRestore k = some c)
    (unfit : ¬ (s.slot k).aggregate + c.draw ≤ (s.slot k).contract * (s.tenant k).restorePercent / 100)
    (hold n : Nat) :
    (withItems s k none hold false).restoreTest k n = withItems s k none 0 false := by
  have best : (withItems s k none hold false).bestRestore k = some c := best
  unfold State.restoreTest
  rw [best]
  dsimp only
  refine (if_neg ?_).trans (setHold_of_items (s := s) rfl 0)
  exact unfit

theorem restoreTest_of_fit {c : RowCandidate} (best : s.bestRestore k = some c)
    (fit : (s.slot k).aggregate + c.draw ≤ (s.slot k).contract * (s.tenant k).restorePercent / 100) (hold n : Nat) :
    (withItems s k none hold false).restoreTest k n =
      if min (hold + 1) (s.tenant k).restoreHold = (s.tenant k).restoreHold then
        (withItems s k none (min (hold + 1) (s.tenant k).restoreHold) false).restoreElection k n c
      else withItems s k none (min (hold + 1) (s.tenant k).restoreHold) false := by
  have best : (withItems s k none hold false).bestRestore k = some c := best
  unfold State.restoreTest
  rw [best]
  dsimp only
  rw [curSlot_of_items (s := s) (settle := none) (hold := hold) (flag := false) rfl, setHold_of_items (s := s) rfl]
  refine (if_pos ?_).trans rfl
  exact fit

/-- Settles O38: the row's best candidate by case, the restore test on it, and what its election does. -/
theorem restoreElectionTakesTheBest : Obligations.RestoreElectionTakesTheBest := by
  intro s k n hu hs ht x top hold fits bestOwn bestPeer
  have worked := curtailSlot_of_recovery hu hs ht n
  refine ⟨fun own peers => ?_, ?_, ?_⟩
  · have none : (withItems s k none (s.curSlot k).hold false).bestRestore k = none := bestRestore_eq_none own peers
    rw [worked, State.restoreTest, none]
    exact setHold_of_items (s := s) rfl 0
  · rintro draw ⟨e, c, he, hc, rfl, first, peers⟩
    have best := bestRestore_of_peer he hc first peers
    refine ⟨fun fit => ?_, fun unfit => ?_⟩
    · rw [worked, restoreTest_of_fit best fit]
      split
      · rfl
      · rfl
    · rw [worked, restoreTest_of_unfit best unfit]
  · rintro o ⟨is, first⟩
    have best := bestRestore_of_own is first
    obtain ⟨⟨-, -, -, free⟩, -⟩ := is
    have pending : (withItems s k none hold false).pendingFor (tenantAction k o .closeRelay).outlet = none := free
    refine ⟨fun unfit => ?_, fun fit below => ?_, fun fit atTop full => ?_, fun fit atTop room id hid => ?_⟩
    · rw [worked, restoreTest_of_unfit best unfit]
    · rw [worked, restoreTest_of_fit best fit, if_neg below.ne]
    · have out := State.requestOutcome_full pending (Action.lane_tenant ..) full
      rw [worked, restoreTest_of_fit best fit, if_pos atTop, State.restoreElection]
      dsimp only
      rw [out, ← atTop]
    · have out := State.requestOutcome_room pending (Action.lane_tenant ..) room
      rw [worked, restoreTest_of_fit best fit, if_pos atTop, State.restoreElection]
      dsimp only
      rw [out]
      exact electRestore_eq free hid hold n _ _

end Sys2Proof.Machine
end

section
/-! Branch protection: the trip by what is pending for its candidate, and the restore test with its hold. -/

namespace Sys2Proof.Machine

open Sys2Proof.Safety Sys2Proof.Claims

variable {s u : State} {b : BranchIx} {o : OutletIx}

/-! ### The trip -/

theorem withBranch_self (s : State) (b : BranchIx) : withBranch s b (s.branch b) = s := by
  simp [withBranch, State.branch]

/-- R127: the branch is marked, with one notice. -/
theorem unprotectable_eq (s : State) (b : BranchIx) :
    s.unprotectable b =
      { withBranch s b { s.branch b with unprotectable := true } with
        nq := if (s.branch b).unprotectable then s.nq else raised s [.branchUnprotectable b] } := by
  unfold State.unprotectable
  split
  · next marked =>
    have same : { s.branch b with unprotectable := true } = s.branch b := by rw [← marked]
    rw [same, withBranch_self]
  · rw [State.raise_eq]
    rfl

theorem State.trip_of_none (h : s.tripCandidate b = none) : s.trip b = s.unprotectable b := by
  simp [State.trip, h]

theorem State.trip_of_accepted {c : OwnCandidate} (h : s.tripCandidate b = some c)
    (out : s.requestOutcome (s.branchAction c.outlet .openRelay) = .accepted) :
    s.trip b = s.tripOutlet b c.outlet := by
  simp [State.trip, h, out]

/-- A request that is not accepted leaves everything (R126). -/
theorem State.trip_of_refused {c : OwnCandidate} (h : s.tripCandidate b = some c)
    (out : s.requestOutcome (s.branchAction c.outlet .openRelay) ≠ .accepted) : s.trip b = s := by
  rw [State.trip, h]
  dsimp only
  split
  · next accepted => exact absurd accepted out
  · rfl
  · rfl
  · rfl

/-- A trip's request is a question of room in the urgent lane: a queued CLOSE is of the other lane (R131, R133). -/
theorem requestOutcome_trip (hp : s.pendingFor o = none ∨
      ∃ a, s.pendingFor o = some ⟨a, false⟩ ∧ a.kind = .closeRelay) :
    s.requestOutcome (s.branchAction o .openRelay) =
      if s.rsq.urgent.length < 8 then .accepted else .queueFull := by
  have lane : (s.branchAction o .openRelay).lane = .urgent := Action.lane_branchOpen ..
  rcases hp with hp | ⟨a, hp, hk⟩
  · have pending : s.pendingFor (s.branchAction o .openRelay).outlet = none := hp
    rw [State.requestOutcome_none pending, lane]
    rfl
  · have pending : s.pendingFor (s.branchAction o .openRelay).outlet = some ⟨a, false⟩ := hp
    have differs : a.kind ≠ (s.branchAction o .openRelay).kind := by rw [hk]; exact nofun
    have other : a.lane ≠ .urgent := by rw [Action.lane_of_close hk]; exact nofun
    rw [State.requestOutcome_queued pending (by simp [hk]) differs, lane, if_neg other]
    rfl

/-- The state of an accepted trip up to the choice: the lanes and the notices as the append leaves them (R14, R126). -/
def tripMarked (s : State) (b : BranchIx) (o : OutletIx) (rsq : Rsq) (bodies : List NoticeBody) : State :=
  { withBranch s b { s.branch b with state := .tripping, tripped := some o } with
    outlets := s.outlets.set o.val ((s.outlet o).opened .branch (s.counted o))
    rsq := rsq
    nq := raised s (bodies ++ [.branchTrip b o]) }

theorem tripOutlet_of_enqueue {rsq : Rsq} {bodies : List NoticeBody}
    (h : s.enqueue (s.branchAction o .openRelay) = { s with rsq := rsq, nq := raised s bodies }) :
    s.tripOutlet b o = (tripMarked s b o rsq bodies).choose := by
  have notices : raised s (bodies ++ [.branchTrip b o]) =
      raisedAll s.station s.tly.count [.branchTrip b o] (raised s bodies) := List.foldl_append
  unfold State.tripOutlet tripMarked
  dsimp only
  rw [h, State.raise_eq, notices]
  rfl

/-- Settles O49: no candidate, then the candidate by what is pending for it. -/
theorem tripOpensTheCandidate : Obligations.TripOpensTheCandidate := by
  intro s b
  refine ⟨fun none => ?_, fun o is => ?_⟩
  · rw [State.trip_of_none (State.tripCandidate_eq_none_iff.mpr none), unprotectable_eq]
  have candidate := State.tripCandidate_of_isTripCandidate is
  have lane : (s.branchAction o .openRelay).lane = .urgent := Action.lane_branchOpen ..
  refine ⟨fun hp room => ?_, fun a ha hk room hu => ?_, fun a ha hk => ?_, fun p hp hk => ?_, fun hp full => ?_,
    fun a ha hk full => ?_⟩
  · have out := (requestOutcome_trip (.inl hp)).trans (if_pos room)
    have pending : s.pendingFor (s.branchAction o .openRelay).outlet = none := hp
    have joined := State.enqueue_of_none (State.pendingFor_none pending).2
    rw [Rsq.append_urgent _ lane] at joined
    rw [State.trip_of_accepted candidate out]
    exact tripOutlet_of_enqueue (bodies := []) joined
  · have out := (requestOutcome_trip (.inr ⟨a, ha, hk⟩)).trans (if_pos room)
    have pending : s.pendingFor (s.branchAction o .openRelay).outlet = some ⟨a, false⟩ := ha
    have urgent : (s.rsq.urgent.filter fun c => c.outlet != o) = s.rsq.urgent :=
      filter_outlet_eq_self (by simpa using hu)
    have outlet : a.outlet = o := State.pendingFor_outlet ha
    have joined := State.enqueue_of_queued (State.pendingFor_queued pending).2
    rw [Rsq.append_urgent _ lane, outlet, hk] at joined
    rw [State.trip_of_accepted candidate out, tripOutlet_of_enqueue joined, Rsq.remove,
      show (s.branchAction o .openRelay).outlet = o from rfl, urgent]
    rfl
  · have differs : a.kind ≠ (s.branchAction o .openRelay).kind := by rw [hk]; exact nofun
    have out := State.requestOutcome_inFlight (a := s.branchAction o .openRelay) ha differs
    exact State.trip_of_refused candidate (by rw [out]; exact nofun)
  · by_cases hr : p.action.kind = .rearm
    · have out := State.requestOutcome_rearm (a := s.branchAction o .openRelay) hp hr
      exact State.trip_of_refused candidate (by rw [out]; exact nofun)
    · have opens : p.action.kind = (s.branchAction o .openRelay).kind := by
        cases hkind : p.action.kind with
        | openRelay => rfl
        | closeRelay => exact absurd hkind hk
        | rearm => exact absurd hkind hr
      have out := State.requestOutcome_merged (a := s.branchAction o .openRelay) hp hr opens
      exact State.trip_of_refused candidate (by rw [out]; exact nofun)
  · have out := (requestOutcome_trip (.inl hp)).trans (if_neg full.not_gt)
    exact State.trip_of_refused candidate (by rw [out]; exact nofun)
  · have out := (requestOutcome_trip (.inr ⟨a, ha, hk⟩)).trans (if_neg full.not_gt)
    exact State.trip_of_refused candidate (by rw [out]; exact nofun)

/-! ### The restore test -/

theorem State.branchActionPending_iff : s.branchActionPending b = true ↔ BranchBusy s b := by
  simp only [State.branchActionPending, List.any_eq_true, mem_outletsOf, branchOf_eq_iff, State.branchPending_iff,
    BranchBusy]

theorem State.tenantHasRoom_iff : s.tenantHasRoom o = true ↔ HasRoom s o := by
  unfold State.tenantHasRoom HasRoom
  cases (s.outlet o).slot with
  | none => simp
  | some k =>
    simp only [State.contracted, Draw.byMode_eq, Bool.and_eq_true, Bool.or_eq_true, Bool.not_eq_true',
      Bool.and_eq_false_iff, beq_iff_eq, beq_eq_false_iff_ne, bne_eq_false_iff_eq, decide_eq_true_eq, Option.some.injEq,
      forall_eq', or_assoc]
    simp only [imp_iff_not_or, Bool.not_eq_true, ne_eq, not_not]
    rfl

theorem State.branchRoom_iff {rank : Nat} :
    s.branchRoom b ⟨o, rank, (rememberedOf s o).i⟩ = true ↔ BranchTestPasses s b o := by
  have idle : s.branchActionPending b = false ↔ ¬ BranchBusy s b := by
    rw [← Bool.not_eq_true, State.branchActionPending_iff]
  simp only [State.branchRoom, Bool.and_eq_true, beq_iff_eq, decide_eq_true_eq, State.tenantHasRoom_iff, idle,
    BranchTestPasses, and_assoc]
  rfl

/-- A hold count set twice is the later one. -/
theorem setBranchHold_of_held {n m : Nat} (h : u.brm = (s.setBranchHold b n).brm) :
    u.setBranchHold b m = { u with brm := (s.setBranchHold b m).brm } := by
  have branch : u.branch b = { s.branch b with holdCount := n } := by
    rw [State.branch, h]
    simp [State.setBranchHold, State.setBranch]
  rw [State.setBranchHold, State.setBranch, branch, h]
  simp [State.setBranchHold, State.setBranch]

theorem State.branchRestoreTest_of_none (h : s.branchRestoreCandidate b = none) :
    s.branchRestoreTest b = s.setBranchHold b 0 := by
  simp [State.branchRestoreTest, h]

theorem State.branchRestoreTest_of_fails {c : OwnCandidate} (h : s.branchRestoreCandidate b = some c)
    (fails : ¬ s.branchRoom b c = true) : s.branchRestoreTest b = s.setBranchHold b 0 := by
  simp [State.branchRestoreTest, h, fails]

theorem State.branchRestoreTest_of_passes {c : OwnCandidate} (h : s.branchRestoreCandidate b = some c)
    (passes : s.branchRoom b c = true) :
    let hold := min ((s.branch b).holdCount + 1) (s.branch b).restoreHold
    (hold < (s.branch b).restoreHold → s.branchRestoreTest b = s.setBranchHold b hold) ∧
    (hold = (s.branch b).restoreHold →
      ((s.setBranchHold b hold).requestOutcome (s.branchAction c.outlet .closeRelay) = .queueFull →
        s.branchRestoreTest b = s.setBranchHold b hold) ∧
      ((s.setBranchHold b hold).requestOutcome (s.branchAction c.outlet .closeRelay) = .accepted →
        s.branchRestoreTest b = (s.setBranchHold b hold).restoreOutlet b c.outlet)) := by
  intro hold
  have branch : (s.setBranchHold b hold).branch b = { s.branch b with holdCount := hold } :=
    State.branch_setBranch_self ..
  have test : s.branchRestoreTest b =
      if hold = (s.branch b).restoreHold then
        match (s.setBranchHold b hold).requestOutcome (s.branchAction c.outlet .closeRelay) with
        | .accepted => (s.setBranchHold b hold).restoreOutlet b c.outlet
        | .merged => s.setBranchHold b hold
        | .busy => s.setBranchHold b hold
        | .queueFull => s.setBranchHold b hold
      else s.setBranchHold b hold := by
    rw [State.branchRestoreTest, h]
    dsimp only
    rw [branch]
    exact if_pos passes
  refine ⟨fun below => ?_, fun atTop => ⟨fun out => ?_, fun out => ?_⟩⟩
  · rw [test, if_neg below.ne]
  · rw [test, if_pos atTop, out]
  · rw [test, if_pos atTop, out]

/-- The BRANCH CLOSE of an outlet with nothing pending (R129, R16). -/
theorem restoreOutlet_eq {n : Nat} (free : s.pendingFor o = none) :
    (s.setBranchHold b n).restoreOutlet b o =
      ({ s.setBranchHold b 0 with
        outlets := s.outlets.set o.val (s.outlet o).restored
        rsq := { s.rsq with
          standard := s.rsq.standard ++ [⟨o, .closeRelay, .branch, (s.outlet o).slot⟩] } } : State).choose := by
  have pending : (s.setBranchHold b n).pendingFor (s.branchAction o .closeRelay).outlet = none := free
  have lane : (s.branchAction o .closeRelay).lane = .standard := Action.lane_close ..
  have joined := State.enqueue_standard pending lane
  unfold State.restoreOutlet
  dsimp only
  rw [show (s.setBranchHold b n).branchAction o .closeRelay = s.branchAction o .closeRelay from rfl, joined,
    setBranchHold_of_held (s := s) (n := n)]
  · rfl
  · rfl

/-- Settles O50: no candidate, the test failing, and the test passing by hold and room. -/
theorem branchRestoreNeedsRoom : Obligations.BranchRestoreNeedsRoom := by
  intro s b x hold held
  refine ⟨fun none => ?_, fun o is => ⟨fun fails => ?_, fun passes => ?_⟩⟩
  · exact State.branchRestoreTest_of_none (State.branchRestoreCandidate_eq_none_iff.mpr none)
  · exact State.branchRestoreTest_of_fails (State.branchRestoreCandidate_of_isBranchRestore is)
      (mt State.branchRoom_iff.mp fails)
  · obtain ⟨below, atTop⟩ := State.branchRestoreTest_of_passes
      (State.branchRestoreCandidate_of_isBranchRestore is) (State.branchRoom_iff.mpr passes)
    obtain ⟨⟨-, -, -, free⟩, -⟩ := is
    have pending : (s.setBranchHold b hold).pendingFor (s.branchAction o .closeRelay).outlet = none := free
    have lane : (s.branchAction o .closeRelay).lane = .standard := Action.lane_close ..
    refine ⟨below, fun top full => ?_, fun top room => ?_⟩
    · exact (atTop top).1 (State.requestOutcome_full pending lane full)
    · rw [(atTop top).2 (State.requestOutcome_room pending lane room), restoreOutlet_eq free]
      rfl

end Sys2Proof.Machine
end

section
/-! The passing of time: one tick of 4 µs, record by record (log entries 1 and 32). -/

namespace Sys2Proof.Machine

open Sys2Proof.Claims

variable {s : State}

theorem tickDown_eq (n : Nat) : tickDown n = (ticked (some n)).getD 0 := by
  match n with
  | 0 => rfl
  | 1 => rfl
  | n + 2 => exact if_neg (by omega)

theorem Timer.tick_eq (t : Timer) : Timer.tick t = ticked t := by
  match t with
  | none => rfl
  | some 0 => rfl
  | some 1 => rfl
  | some (n + 2) => exact congrArg some (tickDown_eq (n + 2))

theorem CoilPulse.tick_eq (p : CoilPulse) : p.tick = { p with left := (ticked (some p.left)).getD 0 } := by
  rw [CoilPulse.tick, tickDown_eq]

theorem Outlet.tick_eq (x : Outlet) :
    x.tick = { x with
      residualPulse := x.residualPulse.map fun p => { p with left := (ticked (some p.left)).getD 0 } } := by
  rw [Outlet.tick, funext CoilPulse.tick_eq]

theorem Adjustment.tick_eq (a : Adjustment) :
    a.tick = { a with left := (ticked (some a.left)).getD 0, oldDue := false } := by
  rw [Adjustment.tick, tickDown_eq]

theorem DynEntry.tick_eq (e : DynEntry) :
    e.tick = { e with adjustment := e.adjustment.map fun a =>
      { a with left := (ticked (some a.left)).getD 0, oldDue := false } } := by
  rw [DynEntry.tick, funext Adjustment.tick_eq]

theorem CurSlot.tick_eq (c : CurSlot) : c.tick = { c with settle := ticked c.settle, oldDue := false } := by
  rw [CurSlot.tick, Timer.tick_eq]

theorem InFlight.tick_eq (f : InFlight) :
    f.tick = { f with pulse := ticked f.pulse, window := (ticked (some f.window)).getD 0 } := by
  rw [InFlight.tick, Timer.tick_eq, tickDown_eq]

/-- What a tick leaves: all but the records it goes into is written out. -/
theorem State.tick_eq (s : State) :
    s.tick = { s with
      outlets := mapVec Outlet.tick s.outlets
      osu := { s.osu with sweepTimer := ticked s.osu.sweepTimer, stage := s.osu.stage.tick }
      tly := { s.tly with timer := ticked s.tly.timer }
      ctb := { s.ctb with timer := ticked s.ctb.timer, dyn := mapVec (fun e => e.map DynEntry.tick) s.ctb.dyn }
      rlc := { s.rlc with retry := ticked s.rlc.retry }
      cur := { s.cur with slots := mapVec CurSlot.tick s.cur.slots }
      rsq := { s.rsq with stagger := ticked s.rsq.stagger, inFlight := s.rsq.inFlight.map InFlight.tick } } := by
  simp only [State.tick, Timer.tick_eq]

theorem step_empty (h : s.pending = []) : step s = .next s.idle := by rw [step, h]

/-- Settles O2: the state after a tick, then each kind of record that counts down. -/
theorem emptyQueuePassesOneTick : Obligations.EmptyQueuePassesOneTick := by
  intro s empty
  refine ⟨fun held => ?_, fun free => ⟨s.tick, ?_, s.tick_eq, fun o => ?_, fun h => ?_, fun n h => ?_, fun n h => ?_,
    fun i => ?_, fun k => ?_, ?_⟩⟩
  · rw [step_empty empty, State.idle, if_pos held]
  · rw [step_empty empty, State.idle, if_neg (by simp [free])]
  · exact (getElem_mapVec Outlet.tick ..).trans (Outlet.tick_eq _)
  · exact congrArg SweepStage.tick h
  · exact (congrArg SweepStage.tick h).trans (congrArg _ (tickDown_eq n))
  · exact (congrArg SweepStage.tick h).trans (congrArg _ (tickDown_eq n))
  · exact (getElem_mapVec (Option.map DynEntry.tick) ..).trans (congrArg (Option.map · _) (funext DynEntry.tick_eq))
  · exact (getElem_mapVec CurSlot.tick ..).trans (CurSlot.tick_eq _)
  · exact congrArg (Option.map · _) (funext InFlight.tick_eq)

end Sys2Proof.Machine
end

section
/-! Commands in RUN: the outlet index, SET BAND, and the counters that CLEAR COUNTERS names. -/

namespace Sys2Proof.Machine

open Sys2Proof.Claims

variable {s : State} {b target index : Byte} {more : List Byte}

/-! ### Parameters without meaning -/

theorem outletIndex_none {n : Nat} (h : 48 ≤ n) : outletIndex n = none := dif_neg (Nat.not_lt.mpr h)

theorem slotIndex_none {n : Nat} (h : 16 ≤ n) : slotIndex n = none := dif_neg (Nat.not_lt.mpr h)

theorem bandIndex_none {n : Nat} (h : 4 ≤ n) : bandIndex n = none := dif_neg (Nat.not_lt.mpr h)

theorem State.outletCommand_badIndex {code : Byte} {n : Nat} {work : State → OutletIx → State}
    (hp : s.mpt.phase = .run) (hn : 48 ≤ n) : s.outletCommand code n work = s.refuse code .badArgument := by
  simp [State.outletCommand, hp, outletIndex_none hn]

/-- An outlet command of an index of 48 or more is refused, whatever its work (R170). -/
theorem portCommand_badIndex {code : Byte} {pins : Contacts} {work : State → OutletIx → State}
    (h : s.resetHeld = false) (hp : s.mpt.phase = .run) (hb : 48 ≤ b.toNat) :
    portCommand code 1 ⟨[b], more⟩ s
        (fun s => (s.withPins pins).outletCommand code (paramByte ⟨[b], more⟩ 0) work) =
      .next (answered { s with contacts := pins } ⟨[b], more⟩ code .badArgument []) := by
  rw [portCommand_work (len := 1) h rfl]
  exact congrArg _ (State.outletCommand_badIndex hp hb)

/-! ### SET BAND -/

theorem exec_setBand_auto (h : s.resetHeld = false) (auto : s.station.autoBand = true) :
    exec (.setBand ⟨[b], more⟩) s = .next (answered s ⟨[b], more⟩ 51 .wrongState []) := by
  rw [exec, execSetBand, portCommand_work (len := 1) h rfl]
  exact congrArg _ (if_pos (Or.inr auto))

theorem exec_setBand_band {n : Band} (h : s.resetHeld = false) (hp : s.mpt.phase = .run)
    (manual : s.station.autoBand = false) (hn : n.val = b.toNat) :
    exec (.setBand ⟨[b], more⟩) s =
      .next (answered { s with station := { s.station with manualBand := n } } ⟨[b], more⟩ 51 .ok []) := by
  have band : bandIndex (paramByte ⟨[b], more⟩ 0) = some n := bandIndex_val hn
  rw [exec, execSetBand, portCommand_work (len := 1) h rfl]
  refine congrArg _ ((if_neg (by simp [hp, manual])).trans ?_)
  rw [band]
  rfl

theorem exec_setBand_badBand (h : s.resetHeld = false) (hp : s.mpt.phase = .run)
    (manual : s.station.autoBand = false) (hb : 4 ≤ b.toNat) :
    exec (.setBand ⟨[b], more⟩) s = .next (answered s ⟨[b], more⟩ 51 .badArgument []) := by
  have band : bandIndex (paramByte ⟨[b], more⟩ 0) = none := bandIndex_none hb
  rw [exec, execSetBand, portCommand_work (len := 1) h rfl]
  refine congrArg _ ((if_neg (by simp [hp, manual])).trans ?_)
  rw [band]
  rfl

/-! ### CLEAR COUNTERS -/

theorem clearParams_outlet {o : OutletIx} (h : o.val = index.toNat) :
    clearParams ⟨[1, index], more⟩ = some (.outlet o) := congrArg (Option.map ClearTarget.outlet) (outletIndex_val h)

theorem clearParams_slot {k : SlotIx} (h : k.val = index.toNat) :
    clearParams ⟨[2, index], more⟩ = some (.slot k) := congrArg (Option.map ClearTarget.slot) (slotIndex_val h)

theorem clearParams_none
    (h : target = 1 ∧ 48 ≤ index.toNat ∨ target = 2 ∧ 16 ≤ index.toNat ∨ target = 0 ∨ 4 ≤ target.toNat) :
    clearParams ⟨[target, index], more⟩ = none := by
  obtain ⟨rfl, hi⟩ | ⟨rfl, hi⟩ | rfl | ht := h
  · exact congrArg (Option.map ClearTarget.outlet) (outletIndex_none hi)
  · exact congrArg (Option.map ClearTarget.slot) (slotIndex_none hi)
  · rfl
  · have first : paramByte ⟨[target, index], more⟩ 0 = target.toNat := rfl
    unfold clearParams
    split
    · omega
    · omega
    · omega
    · rfl

theorem exec_clearCounters {t : ClearTarget} (h : s.resetHeld = false) (hp : s.mpt.phase = .run)
    (ht : clearParams ⟨[target, index], more⟩ = some t) :
    exec (.clearCounters ⟨[target, index], more⟩) s = .next (answered (s.clear t) ⟨[target, index], more⟩ 52 .ok []) := by
  rw [exec, execClearCounters, portCommand_work (len := 2) h rfl]
  refine congrArg _ ((if_neg (by simp [hp])).trans ?_)
  rw [ht]
  cases t with
  | outlet o => rfl
  | slot k => rfl
  | all => rfl

theorem exec_clearCounters_none (h : s.resetHeld = false) (hp : s.mpt.phase = .run)
    (ht : clearParams ⟨[target, index], more⟩ = none) :
    exec (.clearCounters ⟨[target, index], more⟩) s = .next (answered s ⟨[target, index], more⟩ 52 .badArgument []) := by
  rw [exec, execClearCounters, portCommand_work (len := 2) h rfl]
  refine congrArg _ ((if_neg (by simp [hp])).trans ?_)
  rw [ht]
  rfl

theorem State.clearAll_outlet (s : State) (o : OutletIx) : s.clearAll.outlet o = (s.outlet o).cleared :=
  getElem_mapVec ..

theorem State.clearAll_counters (s : State) (k : SlotIx) : s.clearAll.counters k = SlotCounters.zero :=
  Vector.getElem_replicate ..

/-- Settles O27: the three outlet commands by their index, SET BAND by its band, CLEAR COUNTERS by its target. -/
theorem bandAndCountersInRun : Obligations.BandAndCountersInRun := by
  intro s held run
  refine ⟨fun b more pins hb => ⟨?_, ?_, ?_⟩, fun b more => ⟨exec_setBand_auto held, fun manual =>
    ⟨fun n hn => exec_setBand_band held run manual hn, fun hb => exec_setBand_badBand held run manual hb⟩⟩,
    fun target index more => ⟨?_, ?_, ?_, fun bad => exec_clearCounters_none held run (clearParams_none bad)⟩⟩
  · exact portCommand_badIndex held run hb
  · exact portCommand_badIndex held run hb
  · exact portCommand_badIndex held run hb
  · rintro o rfl ho
    exact exec_clearCounters held run (clearParams_outlet ho)
  · rintro k rfl hk
    exact exec_clearCounters held run (clearParams_slot hk)
  · rintro rfl
    exact ⟨s.clearAll, exec_clearCounters (t := .all) held run rfl, rfl, s.clearAll_outlet, s.clearAll_counters⟩

end Sys2Proof.Machine
end

section
/-! Metering: the sweep's start and its band (R19 to R22), a visit's outcome (R25 to R34), the sweep's end (R35, R36). -/

namespace Sys2Proof.Machine

open Sys2Proof.Claims

variable {s : State} {o : OutletIx}

/-! ### The start of a sweep and its band -/

theorem State.startSweep_eq_sweepStarted (s : State) : s.startSweep = sweepStarted s := s.startSweep_eq

theorem staysIn_iff {b : Band} {t : Int} : staysIn b t = true ↔ inStayRange b t := by
  unfold inStayRange
  match b with
  | 0 => simp [staysIn]
  | 1 => simp [staysIn]
  | 2 => simp [staysIn]
  | 3 => simp [staysIn]

theorem plainBand_of_isPlainBand {b : Band} {t : Int} (h : IsPlainBand b t) : plainBand t = b := by
  unfold plainBand
  obtain ⟨rfl, below⟩ | ⟨rfl, low, high⟩ | ⟨rfl, low, high⟩ | ⟨rfl, above⟩ := h
  · rw [if_pos below]
  · rw [if_neg (by omega), if_pos high]
  · rw [if_neg (by omega), if_neg (by omega), if_pos high]
  · rw [if_neg (by omega), if_neg (by omega), if_neg (by omega)]

/-- R21: the band within its stay range, else the plain band. -/
theorem nextBand_eq {b c : Band} {t : Int} (stays : inStayRange b t → c = b) (moves : ¬ inStayRange b t → IsPlainBand c t) :
    nextBand b t = c := by
  unfold nextBand
  split
  · next h => exact (stays (staysIn_iff.mp h)).symm
  · next h => exact plainBand_of_isPlainBand (moves (mt staysIn_iff.mpr h))

/-- R22: the condition is set, with one notice at the first failure of a run. -/
theorem State.sensorFailed_eq (s : State) :
    s.sensorFailed = { s with
      osu := { s.osu with sensorFail := true }
      nq := if s.osu.sensorFail then s.nq else raised s [.tempSensorFail] } := by
  unfold State.sensorFailed
  split
  · next failing =>
    have same : { s.osu with sensorFail := true } = s.osu := by rw [← failing]
    rw [same]
  · rw [State.raise_eq]
    rfl

/-- A sensor read that ends without a temperature in the sensor's range has failed (R20). -/
theorem exec_tempReadEnd_failed {n : Nat} {result : TempResult} (held : s.resetHeld = false)
    (reading : s.osu.stage = .readingSensor n) (bad : ∀ t, result = .temperature t → ¬ (-400 ≤ t ∧ t ≤ 1250)) :
    exec (.tempReadEnd result) s = .next s.sensorFailed.firstRequest := by
  rw [exec, execTempReadEnd, unlessHeld_free held, reading]
  cases result with
  | noAcknowledge => rfl
  | temperature t => exact congrArg _ (if_neg (mt of_decide_eq_true (bad t rfl)))

theorem exec_tempReadEnd_read {n : Nat} {t : Int} (held : s.resetHeld = false)
    (reading : s.osu.stage = .readingSensor n) (good : -400 ≤ t ∧ t ≤ 1250) :
    exec (.tempReadEnd (.temperature t)) s = .next (s.sensorRead t).firstRequest := by
  rw [exec, execTempReadEnd, unlessHeld_free held, reading]
  exact congrArg _ (if_pos (decide_eq_true good))

theorem exec_sweepTimerExpiry_owed {n : Nat} (held : s.resetHeld = false) (timer : s.osu.sweepTimer = some n)
    (busy : s.osu.stage ≠ .idle) :
    exec .sweepTimerExpiry s = .next { s with osu := { s.osu with sweepTimer := none, owed := true } } := by
  rw [exec, execSweepTimerExpiry, unlessHeld_free held, timer]
  cases stage : s.osu.stage with
  | idle => exact absurd stage busy
  | readingSensor m => rfl
  | requesting m => rfl

/-- Settles O28: the expiry by timer and stage, then the read's end by its result. -/
theorem sweepStartSettlesItsBand : Obligations.SweepStartSettlesItsBand := by
  refine ⟨fun s held => ⟨fun stopped => ?_, fun running idle => ?_, fun running busy => ?_⟩,
    fun s n held reading => ?_⟩
  · rw [exec, execSweepTimerExpiry, unlessHeld_free held, stopped]
  · obtain ⟨n, timer⟩ := Option.ne_none_iff_exists'.mp running
    rw [exec, execSweepTimerExpiry, unlessHeld_free held, timer, idle, ← State.startSweep_eq_sweepStarted]
  · obtain ⟨n, timer⟩ := Option.ne_none_iff_exists'.mp running
    exact exec_sweepTimerExpiry_owed held timer busy
  intro request failed
  have failure : s.sensorFailed.firstRequest = failed := by
    rw [State.sensorFailed_eq]
    rfl
  refine ⟨fun t b low high stays moves => ?_, fun t out => ?_, ?_, ?_⟩
  · rw [exec_tempReadEnd_read held reading ⟨low, high⟩, State.sensorRead, nextBand_eq stays moves]
    rfl
  · have bad : ∀ u, TempResult.temperature t = .temperature u → ¬ (-400 ≤ u ∧ u ≤ 1250) := by
      rintro u ⟨⟩
      omega
    rw [exec_tempReadEnd_failed held reading bad, failure]
  · rw [exec_tempReadEnd_failed (result := .noAcknowledge) held reading nofun, failure]
  · rw [exec, execTempReadTimeout, unlessHeld_free held, reading, ← failure]

/-! ### The record a visit leaves -/

/-- R33 and R34, in one record. -/
theorem Outlet.runDown_eq (x : Outlet) : x.runDown = afterVisit x x.reading := by
  unfold Outlet.runDown Outlet.settled afterVisit
  by_cases last : x.countdown = 1
  · by_cases closing : x.direction = some .closed ∧ x.reason = .none
    · rw [if_pos last, if_pos closing, if_pos ⟨last, closing⟩, last]
    · rw [if_pos last, if_neg closing, if_neg fun h => closing h.2, last]
  · rw [if_neg last, if_neg fun h => last h.1]

theorem scaled_eq (raw : Int) (gain : Nat) : scaled raw gain = scaledFloor raw gain :=
  (Int.fdiv_eq_ediv_of_nonneg _ (by decide)).symm

theorem clampTo_eq (hi : Nat) (v : Int) : clampTo hi v = (min (max v 0) hi).toNat := by
  unfold clampTo
  omega

/-- Calibration is R27 to R29: the reading it gives is the reading taken. -/
theorem takenReading_eq (x : Outlet) (band : Band) (r : FrontEndReply) :
    takenReading x band r =
      { draw := (calibrate x band r).1, status := (calibrate x band r).2, stale := false, misses := 0 } := by
  have larger (a b : Nat) : (if a < b then b else a) = max a b := by split <;> omega
  simp only [takenReading, calibrate, scaled_eq, clampTo_eq, larger]
  rfl

/-! ### The disposal of an outcome -/

/-- An outlet's reading replaced, and notices raised. -/
def State.withReading (s : State) (o : OutletIx) (reading : Reading) (bodies : List NoticeBody) : State :=
  { s.setOutlet o { s.outlet o with reading := reading } with nq := raised s bodies }

theorem State.withReading_outlet (s : State) (o : OutletIx) (reading : Reading) (bodies : List NoticeBody) :
    (s.withReading o reading bodies).outlet o = { s.outlet o with reading := reading } :=
  State.outlet_setOutlet_self ..

/-- Writing an outlet's record over its new reading. -/
theorem State.withReading_setOutlet (s : State) (o : OutletIx) (reading : Reading) (bodies : List NoticeBody)
    (x : Outlet) :
    (s.withReading o reading bodies).setOutlet o x =
      { s with outlets := s.outlets.set o.val x, nq := raised s bodies } := by
  simp [State.withReading, State.setOutlet]

/-- After the reading the countdown runs down (R33). -/
theorem State.withReading_runDown (s : State) (o : OutletIx) (reading : Reading) (bodies : List NoticeBody) :
    (s.withReading o reading bodies).setOutlet o ((s.withReading o reading bodies).outlet o).runDown =
      visited s o reading bodies := by
  rw [State.withReading_setOutlet, State.withReading_outlet, Outlet.runDown_eq]
  rfl

/-- R32: the outlet is fresh, with a notice if it was stale. -/
theorem State.answered_eq (s : State) (o : OutletIx) :
    s.answered o = s.withReading o { (s.outlet o).reading with misses := 0, stale := false } (freshNotice s o) := by
  unfold State.answered freshNotice
  dsimp only
  by_cases stale : (s.outlet o).reading.stale = true
  · rw [if_pos stale, if_pos stale]
    exact State.raise_eq ..
  · rw [if_neg stale, if_neg stale]
    rfl

/-- R26: the counts are taken in RUN with the countdown at 0, and held otherwise. -/
theorem State.takeCounts_answered (s : State) (o : OutletIx) (r : FrontEndReply) :
    (s.answered o).takeCounts o r = s.withReading o (readingAfterReply s o r) (freshNotice s o) := by
  rw [State.answered_eq]
  unfold State.takeCounts readingAfterReply
  dsimp only
  rw [State.withReading_outlet]
  by_cases taken : s.mpt.phase = .run ∧ (s.outlet o).countdown = 0
  · rw [if_pos taken, takenReading_eq]
    exact (if_pos taken).trans (State.withReading_setOutlet ..)
  · rw [if_neg taken]
    exact if_neg taken

theorem State.setOutlet_self (s : State) (o : OutletIx) : s.setOutlet o (s.outlet o) = s := by
  simp [State.setOutlet, State.outlet]

/-- R31: the miss counted, the fourth with OUTLET_STALE. -/
theorem State.missed_eq (s : State) (o : OutletIx) :
    s.missed o = s.withReading o (readingAfterSilence (s.outlet o)) (staleNotice s o) := by
  have fourth : (s.outlet o).reading.misses + 1 = Config.staleMisses ↔ (s.outlet o).reading.misses = 3 := by
    rw [Config.staleMisses]
    omega
  unfold State.missed readingAfterSilence staleNotice
  dsimp only
  by_cases three : (s.outlet o).reading.misses = 3
  · rw [if_pos (fourth.mpr three), if_pos three, if_pos three]
    exact State.raise_eq ..
  · have below : (s.outlet o).reading.misses < Config.staleMisses ↔ (s.outlet o).reading.misses < 3 := by
      rw [Config.staleMisses]
      omega
    rw [if_neg (mt fourth.mp three), if_neg three, if_neg three]
    by_cases counted : (s.outlet o).reading.misses < 3
    · rw [if_pos (below.mpr counted), if_pos counted]
      rfl
    · rw [if_neg (mt below.mp counted), if_neg counted]
      exact (State.setOutlet_self s o).symm

theorem State.dispose_reply (s : State) (o : OutletIx) (r : FrontEndReply) :
    s.dispose o (some r) = visited s o (readingAfterReply s o r) (freshNotice s o) := by
  rw [State.dispose, State.takeCounts_answered, State.withReading_runDown]

theorem State.dispose_silent (s : State) (o : OutletIx) :
    s.dispose o none = visited s o (readingAfterSilence (s.outlet o)) (staleNotice s o) := by
  rw [State.dispose, State.missed_eq, State.withReading_runDown]

/-! ### The end of a visit -/

/-- R24: below outlet 47 the next one is requested. -/
theorem State.endVisit_next {o' : OutletIx} (h : o'.val = s.osu.scan.val + 1) : s.endVisit = nextRequest s o' := by
  have next : s.osu.scan.val + 1 < 48 := h ▸ o'.isLt
  have same : (⟨s.osu.scan.val + 1, next⟩ : OutletIx) = o' := Fin.ext h.symm
  rw [State.endVisit, dif_pos next, same]
  rfl

theorem State.handSweep_owed (s : State) : s.handSweep.osu.owed = s.osu.owed := by
  unfold State.handSweep
  split <;> rfl

/-- R35, R36, R19: the completion handed on by phase, and the owed sweep. -/
theorem State.completeSweep_eq (s : State) : s.completeSweep = sweepCompleted s := by
  unfold State.completeSweep sweepCompleted
  simp only [State.handSweep_owed, State.startSweep_eq_sweepStarted]
  unfold State.handSweep
  cases s.mpt.phase with
  | config => rfl
  | warmup => rfl
  | run => rfl

theorem State.endVisit_last (h : s.osu.scan = 47) : s.endVisit = sweepCompleted s := by
  have last : ¬ s.osu.scan.val + 1 < 48 := by rw [h]; decide
  rw [State.endVisit, dif_neg last, State.completeSweep_eq]

/-! ### The outcomes of the outlet being scanned -/

theorem goodReply_of_ne {r : FrontEndReply} (h : r.status ≠ .other) : goodReply r = some r := by
  unfold goodReply
  cases status : r.status with
  | ok => rfl
  | clipped => rfl
  | other => exact absurd status h

theorem goodReply_other {r : FrontEndReply} (h : r.status = .other) : goodReply r = none := by
  rw [goodReply, h]

theorem exec_readingReply_good {n : Nat} {r : FrontEndReply} (held : s.resetHeld = false)
    (requesting : s.osu.stage = .requesting n) (ho : s.osu.scan = o) (good : r.status ≠ .other) :
    exec (.readingReply r) s = .next (visited s o (readingAfterReply s o r) (freshNotice s o)).endVisit := by
  rw [exec, execReadingReply, unlessHeld_free held, requesting]
  dsimp only
  rw [State.visit, goodReply_of_ne good, ho, State.dispose_reply]

theorem exec_readingTimeout {n : Nat} (held : s.resetHeld = false) (requesting : s.osu.stage = .requesting n)
    (ho : s.osu.scan = o) :
    exec .readingTimeout s = .next (visited s o (readingAfterSilence (s.outlet o)) (staleNotice s o)).endVisit := by
  rw [exec, execReadingTimeout, unlessHeld_free held, requesting]
  dsimp only
  rw [State.visit, ho, State.dispose_silent]

/-- A reply with another status is NO_RESPONSE, as the limit is (R25). -/
theorem exec_readingReply_other {r : FrontEndReply} (h : r.status = .other) :
    exec (.readingReply r) s = exec .readingTimeout s := by
  rw [exec, exec, execReadingReply, execReadingTimeout, goodReply_other h]

/-- A reply or a limit with no request outstanding changes nothing (R25, R37). -/
theorem exec_reading_unasked {r : FrontEndReply} (held : s.resetHeld = false) (h : ∀ n, s.osu.stage ≠ .requesting n) :
    exec (.readingReply r) s = .next s ∧ exec .readingTimeout s = .next s := by
  rw [exec, exec, execReadingReply, execReadingTimeout, unlessHeld_free held, unlessHeld_free held]
  cases stage : s.osu.stage with
  | idle => exact ⟨rfl, rfl⟩
  | readingSensor m => exact ⟨rfl, rfl⟩
  | requesting n => exact absurd stage (h n)

/-- The fall of a countdown from 1 to 0 is that of a visit (R34; log entry 18). -/
theorem Outlet.settled_eq {x : Outlet} (h : x.countdown = 1) : x.settled = afterVisit x x.reading := by
  rw [← Outlet.runDown_eq, Outlet.runDown, if_pos h]

/-- Settles O29: the outcome's record by its kind, then the events that end no visit. -/
theorem visitsEndByTheirOutcome : Obligations.VisitsEndByTheirOutcome := by
  refine ⟨fun s n rep o o' held requesting ho ho' good => ?_, fun s n rep o o' held requesting ho ho' => ?_,
    fun s rep held => ⟨rfl, exec_reading_unasked held, fun o => ⟨fun last => ?_, fun other => ?_⟩⟩⟩
  · rw [exec_readingReply_good held requesting ho good]
    exact congrArg _ (State.endVisit_next (ho ▸ ho'))
  · have silent := (exec_readingTimeout held requesting ho).trans (congrArg _ (State.endVisit_next (ho ▸ ho')))
    exact ⟨silent, fun other => (exec_readingReply_other other).trans silent⟩
  · rw [exec, execSettleCountdownEnd, unlessHeld_free held, if_pos last, Outlet.settled_eq last]
    rfl
  · rw [exec, execSettleCountdownEnd, unlessHeld_free held, if_neg other]

/-- Settles O30: the outcome's record as below outlet 47, and the sweep complete. -/
theorem sweepCompletionGoesByPhase : Obligations.SweepCompletionGoesByPhase := by
  intro s n rep held requesting scan
  have silent := (exec_readingTimeout held requesting scan).trans (congrArg _ (State.endVisit_last scan))
  refine ⟨silent, fun other => (exec_readingReply_other other).trans silent, fun good => ?_⟩
  rw [exec_readingReply_good held requesting scan good]
  exact congrArg _ (State.endVisit_last scan)

end Sys2Proof.Machine
end

section
/-! The reads of a tenant, an outlet and a branch: the record that the index names, and its items in the order of R60,
R169 and R123. -/

namespace Sys2Proof.Machine

open Sys2Proof.Claims

variable {s : State} {b : Byte} {more : List Byte}

/-! ### What a read answers -/

theorem branchIndex_none {n : Nat} (h : 6 ≤ n) : branchIndex n = none := dif_neg (Nat.not_lt.mpr h)

/-- The state after a read of the record an index names: its data, or BAD_ARGUMENT where the index names none (R160). -/
def readAnswered (s : State) (r : Record) (code : Byte) : Option (List Byte) → State
  | some data => answered s r code .ok data
  | none => answered s r code .badArgument []

theorem paramByte_single (b : Byte) (more : List Byte) : paramByte ⟨[b], more⟩ 0 = b.toNat := rfl

theorem exec_readTenant (held : s.resetHeld = false) :
    exec (.readTenant ⟨[b], more⟩) s =
      .next (readAnswered s ⟨[b], more⟩ 2 ((slotIndex b.toNat).map s.tenantData)) := by
  rw [exec, execReadTenant, portCommand_work (len := 1) held rfl, paramByte_single]
  cases slotIndex b.toNat with
  | none => rfl
  | some k => rfl

theorem exec_readOutlet (held : s.resetHeld = false) :
    exec (.readOutlet ⟨[b], more⟩) s =
      .next (readAnswered s ⟨[b], more⟩ 3 ((outletIndex b.toNat).map s.outletData)) := by
  rw [exec, execReadOutlet, portCommand_work (len := 1) held rfl, paramByte_single]
  cases outletIndex b.toNat with
  | none => rfl
  | some o => rfl

theorem exec_readBranch (held : s.resetHeld = false) :
    exec (.readBranch ⟨[b], more⟩) s =
      .next (readAnswered s ⟨[b], more⟩ 4 ((branchIndex b.toNat).map s.branchData)) := by
  rw [exec, execReadBranch, portCommand_work (len := 1) held rfl, paramByte_single]
  cases branchIndex b.toNat with
  | none => rfl
  | some n => rfl

/-! ### The items of a record -/

theorem CurSlot.settleMs_eq (c : CurSlot) : c.settleMs = (c.settle.map msLeft).getD 0 := by
  unfold CurSlot.settleMs
  cases c.settle with
  | none => rfl
  | some n => rfl

theorem directionCode_eq (p : Position) : directionCode p = if p = .opened then 0 else 1 := by
  cases p with
  | closed => rfl
  | opened => rfl

/-- A vector of four, entry by entry. -/
theorem vector_four_flatMap {α β : Type} (v : Vector α 4) (f : α → List β) :
    v.toList.flatMap f = f v[0] ++ f v[1] ++ f v[2] ++ f v[3] := by
  match v with
  | ⟨⟨[_, _, _, _]⟩, _⟩ => simp

/-- R123's count, over all the outlets at once. -/
theorem State.branchShedCount_eq (s : State) (n : BranchIx) :
    s.branchShedCount n =
      (allOutlets.filter fun o => o.val / 8 == n.val && (s.outlet o).reason == .branch).length := by
  have wired : ∀ o : OutletIx, (branchOf o == n) = (o.val / 8 == n.val) := fun o => by
    rw [Bool.eq_iff_iff, beq_iff_eq, beq_iff_eq, branchOf_eq_iff]
  simp only [State.branchShedCount, outletsOf, List.filter_filter, wired, Bool.and_comm]

/-- Settles O13: each read by its index, its data item by item. -/
theorem recordReadsReport : Obligations.RecordReadsReport := by
  intro b more s held r
  refine ⟨fun k hk => ?_, fun o ho => ?_, fun n hn => ?_, fun hb => ?_, fun hb => ?_, fun hb => ?_⟩
  · rw [exec_readTenant held, slotIndex_val hk]
    simp only [readAnswered, Option.map_some, State.tenantData, SlotRuntime.bytes, Counter.bytes, CurSlot.settleMs_eq,
      List.append_assoc]
    rfl
  · rw [exec_readOutlet held, outletIndex_val ho]
    simp only [readAnswered, Option.map_some, State.outletData, vector_four_flatMap, slotBytes, Reading.bytes,
      Draw.bytes, Counter.bytes, directionCode_eq, List.append_assoc]
    rfl
  · rw [exec_readBranch held, branchIndex_val hn]
    simp only [readAnswered, Option.map_some, State.branchData, State.branchShedCount_eq]
    rfl
  · rw [exec_readTenant held, slotIndex_none hb]
    rfl
  · rw [exec_readOutlet held, outletIndex_none hb]
    rfl
  · rw [exec_readBranch held, branchIndex_none hb]
    rfl

end Sys2Proof.Machine
end

section
/-! The counted draw: R41's four cases, told by the outlet's standing. -/

namespace Sys2Proof.Machine

variable {s : State} {o : OutletIx}

/-! ### The standing -/

theorem State.standing_opening {p : Pending} (hp : s.pendingFor o = some p) (hk : p.action.kind = .openRelay) :
    s.standing o = .opening := by
  simp [State.standing, hp, hk]

theorem State.standing_closing {p : Pending} (hp : s.pendingFor o = some p) (hk : p.action.kind = .closeRelay) :
    s.standing o = .closing := by
  simp [State.standing, hp, hk]

/-- With nothing pending, or a REARM, cases 3 and 4 tell the standing. -/
theorem State.standing_idle (idle : ∀ p, s.pendingFor o = some p → p.action.kind = .rearm) :
    s.standing o = (s.outlet o).idleStanding := by
  unfold State.standing
  cases hp : s.pendingFor o with
  | none => rfl
  | some p => simp [idle p hp]

theorem Outlet.idleStanding_settling {x : Outlet} {d : Position} (hc : 0 < x.countdown) (hd : x.direction = some d) :
    x.idleStanding = if d = .opened then .settlingOpen else .settlingClosed := by
  unfold Outlet.idleStanding
  rw [if_neg hc.ne', hd]
  cases d with
  | closed => rfl
  | opened => rfl

theorem Outlet.idleStanding_settled {x : Outlet} (hc : x.countdown = 0) :
    x.idleStanding = if x.feedback = .closed then .sensedClosed else .sensedOpen := by
  unfold Outlet.idleStanding Outlet.sensedStanding
  rw [if_pos hc]
  cases x.feedback with
  | closed => rfl
  | opened => rfl

/-! ### What a standing counts -/

theorem State.counts_nothing
    (h : s.standing o = .opening ∨ s.standing o = .settlingOpen ∨ s.standing o = .sensedOpen) :
    s.counted o = ⟨0, 0, 0⟩ ∧ s.energised o = false := by
  unfold State.counted State.energised
  rcases h with h | h | h <;> simp [h, Draw.zero]

theorem State.counts_remembered (h : s.standing o = .closing ∨ s.standing o = .settlingClosed) :
    s.counted o = (s.outlet o).remembered.getD (s.outlet o).reading.draw ∧ s.energised o = true := by
  unfold State.counted State.energised
  rcases h with h | h <;> simp [h, Outlet.rememberedDraw]

theorem State.counts_reading (h : s.standing o = .sensedClosed) :
    s.counted o = (s.outlet o).reading.draw ∧ s.energised o = true := by
  unfold State.counted State.energised
  rw [h]
  exact ⟨rfl, rfl⟩

/-- Settles O31: each case's standing, and what it counts. -/
theorem countedDrawHasFourCases : Obligations.CountedDrawHasFourCases := by
  intro s o x held idle counts
  refine ⟨fun p hp hk => State.counts_nothing (.inl (State.standing_opening hp hk)),
    fun p hp hk => State.counts_remembered (.inl (State.standing_closing hp hk)),
    fun hi hc hd => State.counts_nothing (.inr (.inl ?_)), fun hi hc hd => State.counts_remembered (.inr ?_),
    fun hi hc hf => State.counts_reading ?_, fun hi hc hf => State.counts_nothing (.inr (.inr ?_))⟩
  · exact (State.standing_idle hi).trans (Outlet.idleStanding_settling hc hd)
  · exact (State.standing_idle hi).trans (Outlet.idleStanding_settling hc hd)
  · exact (State.standing_idle hi).trans ((Outlet.idleStanding_settled hc).trans (if_pos hf))
  · exact (State.standing_idle hi).trans ((Outlet.idleStanding_settled hc).trans (if_neg (by simp [x, hf])))

end Sys2Proof.Machine
end

section
/-! Work on the runtime records slot by slot: each in-use slot's record is stored, and TENANT_STATE raised in slot order
for each change (R40, R57). The tally and the entry into RUN are both such work. -/

namespace Sys2Proof.Machine

open Sys2Proof.Claims

/-- What a work leaves in one slot: its record where the slot is in use, else the slot's own. -/
def State.worked (work : State → SlotIx → SlotRuntime) (s : State) (k : SlotIx) : SlotRuntime :=
  if s.inUse k then work s k else s.slot k

/-- The turn of one slot: a free slot is passed over. -/
def State.workSlot (work : State → SlotIx → SlotRuntime) (s : State) (k : SlotIx) : State :=
  if s.inUse k then s.storeSlot k (work s k) else s

/-- The notice of a slot whose state is now another (R57). -/
def stateChange (k : SlotIx) (old new : TenantState) : Option NoticeBody :=
  if old = new then none else some (.tenantState k old new)

/-- A work that reads no notice, and of the runtime records only its own slot's. -/
def ReadsOwnSlot (work : State → SlotIx → SlotRuntime) : Prop :=
  ∀ (s : State) (slots : Vector SlotRuntime 16) (nq : Nq) (k : SlotIx), slots[k.val] = s.slot k →
    work { s with tly := { s.tly with slots := slots }, nq := nq } k = work s k

variable {work : State → SlotIx → SlotRuntime} {s : State} {k : SlotIx}

theorem State.tallySlot_eq_workSlot : State.tallySlot = State.workSlot State.tallyRecord := rfl

theorem State.enterSlot_eq_workSlot : State.enterSlot = State.workSlot State.runRecord := rfl

theorem stateNotices_eq (s t : State) :
    stateNotices s t = allSlots.filterMap fun k => stateChange k (s.slot k).state (t.slot k).state := rfl

theorem raised_append (s : State) (bodies more : List NoticeBody) :
    raised s (bodies ++ more) = raisedAll s.station s.tly.count more (raised s bodies) := List.foldl_append

/-! ### One turn -/

theorem State.setSlot_self (s : State) (k : SlotIx) : s.setSlot k (s.slot k) = s := by
  simp [State.setSlot, State.slot]

theorem State.storeSlot_eq (s : State) (k : SlotIx) (x : SlotRuntime) :
    s.storeSlot k x =
      { s.setSlot k x with nq := raised s (stateChange k (s.slot k).state x.state).toList } := by
  unfold State.storeSlot stateChange
  dsimp only
  split
  · rfl
  · rw [State.raise_eq]
    rfl

/-- A turn writes its slot's record and raises its notice, whether or not the slot is in use. -/
theorem State.workSlot_eq (work : State → SlotIx → SlotRuntime) (s : State) (k : SlotIx) :
    s.workSlot work k =
      { s.setSlot k (s.worked work k) with
        nq := raised s (stateChange k (s.slot k).state (s.worked work k).state).toList } := by
  unfold State.workSlot State.worked
  split
  · exact s.storeSlot_eq k _
  · rw [State.setSlot_self, stateChange, if_pos rfl]
    rfl

theorem State.slot_workSlot_self (work : State → SlotIx → SlotRuntime) (s : State) (k : SlotIx) :
    (s.workSlot work k).slot k = s.worked work k := by
  rw [State.workSlot_eq]
  exact s.slot_setSlot_self k _

theorem State.slot_workSlot_ne {j : SlotIx} (h : j ≠ k) : (s.workSlot work k).slot j = s.slot j := by
  rw [State.workSlot_eq]
  exact s.slot_setSlot_ne h.symm _

theorem ReadsOwnSlot.worked_workSlot {j : SlotIx} (reads : ReadsOwnSlot work) (h : j ≠ k) :
    (s.workSlot work k).worked work j = s.worked work j := by
  rw [State.worked, State.slot_workSlot_ne h, State.workSlot_eq]
  exact congrArg (ite _ · _) (reads s _ _ j (s.slot_setSlot_ne h.symm _))

/-! ### All the slots -/

theorem ReadsOwnSlot.slot_foldl (reads : ReadsOwnSlot work) (s : State) (k : SlotIx) :
    (allSlots.foldl (State.workSlot work) s).slot k = s.worked work k := by
  have each := foldl_worked (get := State.slot) (f := State.workSlot work) (work := State.worked work)
    (State.slot_workSlot_self work) (fun _ _ _ => State.slot_workSlot_ne) (fun _ _ _ => reads.worked_workSlot)
    allSlots (List.nodup_finRange 16) s k
  exact each.trans (if_pos (List.mem_finRange k))

theorem foldl_workSlot_frame (work : State → SlotIx → SlotRuntime) (l : List SlotIx) (s : State) :
    ∃ slots nq, l.foldl (State.workSlot work) s = { s with tly := { s.tly with slots := slots }, nq := nq } :=
  foldl_keeps (P := fun u => ∃ slots nq, u = { s with tly := { s.tly with slots := slots }, nq := nq })
    (fun u k ⟨_, _, hu⟩ => ⟨_, _, by rw [State.workSlot_eq, hu]; rfl⟩) l s ⟨_, _, rfl⟩

/-- The notices are raised in the order of the turns. -/
theorem ReadsOwnSlot.nq_foldl (reads : ReadsOwnSlot work) (l : List SlotIx) (distinct : l.Nodup) (s : State) :
    (l.foldl (State.workSlot work) s).nq =
      raised s (l.filterMap fun k => stateChange k (s.slot k).state (s.worked work k).state) := by
  induction l generalizing s with
  | nil => rfl
  | cons k l ih =>
    obtain ⟨other, distinct⟩ := List.nodup_cons.mp distinct
    have tail : (l.filterMap fun j =>
          stateChange j ((s.workSlot work k).slot j).state ((s.workSlot work k).worked work j).state) =
        l.filterMap fun j => stateChange j (s.slot j).state (s.worked work j).state := by
      refine List.filterMap_congr fun j hj => ?_
      have hjk : j ≠ k := fun e => other (e ▸ hj)
      rw [State.slot_workSlot_ne hjk, reads.worked_workSlot hjk]
    rw [List.foldl_cons, ih distinct, tail, ← List.singleton_append, List.filterMap_append, raised_append,
      State.workSlot_eq]
    rfl

/-- Every slot worked: its record by the state before the work, and nothing else changed but the notices raised. -/
theorem ReadsOwnSlot.foldl_eq (reads : ReadsOwnSlot work) {s t : State}
    (ht : allSlots.foldl (State.workSlot work) s = t) :
    t = { s with tly := { s.tly with slots := t.tly.slots }, nq := raised s (stateNotices s t) } ∧
      ∀ k, t.slot k = s.worked work k := by
  have records : ∀ k, t.slot k = s.worked work k := ht ▸ reads.slot_foldl s
  have notices : t.nq = raised s (stateNotices s t) := by
    rw [stateNotices_eq, ← ht, reads.nq_foldl allSlots (List.nodup_finRange 16) s, ht]
    simp only [records]
  obtain ⟨slots, nq, frame⟩ := foldl_workSlot_frame work allSlots s
  refine ⟨?_, records⟩
  rw [← notices, ← ht, frame]

end Sys2Proof.Machine
end

section
/-! The figures of a tally: the local contribution and the aggregate as sums over all records (R44, R46, R47), the least
code (R49), and the record that a tally stores (R50 to R54). -/

namespace Sys2Proof.Machine

open Sys2Proof.Claims

variable {s : State} {k : SlotIx}

/-! ### Sums over chosen records -/

theorem sum_map_filter {α : Type} (l : List α) (p : α → Bool) (f : α → Nat) :
    ((l.filter p).map f).sum = (l.map fun a => if p a then f a else 0).sum := by
  induction l with
  | nil => rfl
  | cons a l ih => cases h : p a <;> simp [h, ih]

theorem sum_map_filterMap {α β : Type} (l : List α) (g : α → Option β) (f : β → Nat) :
    ((l.filterMap g).map f).sum = (l.map fun a => (g a).elim 0 f).sum := by
  induction l with
  | nil => rfl
  | cons a l ih => cases h : g a <;> simp [h, ih]

theorem Outlet.countsFor_iff {x : Outlet} : x.countsFor k = true ↔ x.slot = some k ∧ x.cls = .contracted := by
  simp [Outlet.countsFor]

theorem State.localContribution_eq (s : State) (k : SlotIx) : s.localContribution k = localOf s k := by
  rw [State.localContribution, sum_map_filter, localOf]
  refine congrArg List.sum (List.map_congr_left fun o _ => ?_)
  simp only [Outlet.countsFor_iff, State.contributionOf, State.countedValue]
  cases (s.tenant k).mode with
  | real => rfl
  | apparent => rfl

theorem DynEntry.adjusted_eq (e : DynEntry) : e.adjusted = adjustedContribution e := by
  unfold DynEntry.adjusted adjustedContribution
  match e.adjustment with
  | none => rfl
  | some ⟨.shed, _, _, _⟩ => rfl
  | some ⟨.restore, _, _, _⟩ => rfl

theorem State.fixedSum_eq (s : State) (k : SlotIx) :
    ((s.fixedOf k).map (·.contribution)).sum =
      (allFixed.map fun n => (s.fixedEntry n).elim 0 fun e => if e.slot = k then e.contribution else 0).sum := by
  simp only [State.fixedOf, sum_map_filter, sum_map_filterMap, beq_iff_eq]

theorem State.entriesSum_eq (s : State) (k : SlotIx) :
    ((s.entriesOf k).map (·.adjusted)).sum =
      (allPlaces.map fun i => (s.entry i).elim 0 fun e => if e.slot = k then adjustedContribution e else 0).sum := by
  simp only [State.entriesOf, sum_map_filter, sum_map_filterMap, beq_iff_eq, DynEntry.adjusted_eq]

theorem State.aggregateOf_eq (s : State) (k : SlotIx) :
    s.aggregateOf k (s.localContribution k) = aggregateFrom s k := by
  rw [State.aggregateOf, State.localContribution_eq, State.fixedSum_eq, State.entriesSum_eq, aggregateFrom]
  refine congrArg₂ (localOf s k + · + ·) (congrArg List.sum (List.map_congr_left fun n _ => ?_))
    (congrArg List.sum (List.map_congr_left fun i _ => ?_))
  · cases s.fixedEntry n with
    | none => rfl
    | some e => rfl
  · cases s.entry i with
    | none => rfl
    | some e => rfl

/-! ### The least code -/

theorem State.mem_freshEntriesOf {e : DynEntry} :
    e ∈ s.freshEntriesOf k ↔ ∃ i, s.entry i = some e ∧ e.slot = k ∧ e.age < 2 := by
  simp only [State.freshEntriesOf, State.entriesOf, DynEntry.stale, allPlaces, List.mem_filter, List.mem_filterMap,
    List.mem_finRange, true_and, beq_iff_eq, Bool.not_eq_true', decide_eq_false_iff_not, not_le]
  constructor
  · rintro ⟨⟨⟨i, hi⟩, hk⟩, ha⟩
    exact ⟨i, hi, hk, ha⟩
  · rintro ⟨i, hi, hk, ha⟩
    exact ⟨⟨⟨i, hi⟩, hk⟩, ha⟩

/-- A fold of minima gives the first or one of the list, and none of them is less. -/
theorem foldl_min_least (l : List Nat) (c : Nat) :
    (l.foldl min c = c ∨ l.foldl min c ∈ l) ∧ l.foldl min c ≤ c ∧ ∀ d ∈ l, l.foldl min c ≤ d := by
  induction l generalizing c with
  | nil => simp
  | cons a l ih =>
    obtain ⟨among, first, others⟩ := ih (min c a)
    refine ⟨?_, first.trans (min_le_left c a), fun d hd => ?_⟩
    · rcases among with h | h
      · rcases min_choice c a with m | m
        · exact .inl (h.trans m)
        · exact .inr (List.mem_cons.mpr (.inl (h.trans m)))
      · exact .inr (List.mem_cons_of_mem a h)
    · rcases List.mem_cons.mp hd with rfl | hd
      · exact first.trans (min_le_right c d)
      · exact others d hd

theorem State.mem_freshCodes {d : Nat} :
    d ∈ ((s.freshEntriesOf k).map (·.code)).filter (fun c => c != 0) ↔
      ∃ i e, s.entry i = some e ∧ e.slot = k ∧ e.age < 2 ∧ e.code ≠ 0 ∧ d = e.code := by
  simp only [List.mem_filter, List.mem_map, State.mem_freshEntriesOf, bne_iff_ne]
  constructor
  · rintro ⟨⟨e, ⟨i, hi, hk, ha⟩, rfl⟩, hc⟩
    exact ⟨i, e, hi, hk, ha, hc, rfl⟩
  · rintro ⟨i, e, hi, hk, ha, hc, rfl⟩
    exact ⟨⟨e, ⟨i, hi, hk, ha⟩, rfl⟩, hc⟩

theorem State.leastCode_isLeast (s : State) (k : SlotIx) : IsLeastCode s k (s.leastCode k) := by
  obtain ⟨among, first, others⟩ := foldl_min_least
    (((s.freshEntriesOf k).map (·.code)).filter fun c => c != 0) (s.tenant k).contractCode
  exact ⟨among.imp_right State.mem_freshCodes.mp, first,
    fun i e hi hk ha hc => others _ (State.mem_freshCodes.mpr ⟨i, e, hi, hk, ha, hc, rfl⟩)⟩

/-- A least code is no more than another: it is among the codes that bound the other. -/
theorem isLeastCode_le {c d : Nat} (hc : IsLeastCode s k c) (hd : IsLeastCode s k d) : c ≤ d := by
  obtain ⟨-, own, others⟩ := hc
  obtain ⟨rfl | ⟨i, e, hi, hk, ha, h0, rfl⟩, -, -⟩ := hd
  · exact own
  · exact others i e hi hk ha h0

theorem isLeastCode_eq {c : Nat} (h : IsLeastCode s k c) : c = s.leastCode k :=
  le_antisymm (isLeastCode_le h (s.leastCode_isLeast k)) (isLeastCode_le (s.leastCode_isLeast k) h)

/-! ### The record of a tally -/

theorem State.shedKnown_iff : s.shedKnown k = true ↔ shedIsKnown s k := by
  simp only [State.shedKnown, shedIsKnown, Bool.or_eq_true, List.any_eq_true, State.mem_freshEntriesOf]
  simp only [allOutlets, List.mem_finRange, true_and, Bool.and_eq_true, beq_iff_eq, Option.isSome_iff_ne_none]
  refine or_congr_right ⟨?_, ?_⟩
  · rintro ⟨e, ⟨i, hi, hk, ha⟩, hr⟩
    exact ⟨i, e, hi, hk, ha, hr⟩
  · rintro ⟨i, e, hi, hk, ha, hr⟩
    exact ⟨e, ⟨i, hi, hk, ha⟩, hr⟩

/-- R52 step 3: K_before + C − A, taken as 0 if negative and as B if above B. -/
theorem creditAfter_eq (a c held b : Nat) :
    (creditAfter a c held b : Int) = min (max ((held : Int) + c - a) 0) b := by
  unfold creditAfter
  omega

/-- R52 step 2: A − C − K_before, but not below 0, where A is above C. -/
theorem uncoveredExcess_eq (a c held : Nat) :
    (uncoveredExcess a c held : Int) = if c < a then max ((a : Int) - c - held) 0 else 0 := by
  unfold uncoveredExcess
  split <;> omega

theorem State.tallyRecord_uncontracted (h : (s.tenant k).contractCode = 0) :
    s.tallyRecord k = ⟨.uncontracted, localOf s k, aggregateFrom s k, 0, 0, 0, 0, s.tly.count⟩ := by
  rw [← State.aggregateOf_eq, ← State.localContribution_eq]
  exact if_pos h

/-- A contracted slot's record is the one R49 to R54 give. -/
theorem State.tallyRecord_contracted (h : (s.tenant k).contractCode ≠ 0) :
    TalliedAs s k s.tly.count (s.tallyRecord k) := by
  rw [State.tallyRecord]
  dsimp only
  rw [if_neg h, State.aggregateOf_eq, State.localContribution_eq]
  exact
    { localDraw := rfl
      aggregate := rfl
      contract := ⟨s.leastCode k, s.leastCode_isLeast k, rfl⟩
      allowance := rfl
      credit := by
        rw [creditAfter_eq, creditHeld, Nat.cast_min]
      uncovered := by
        rw [uncoveredExcess_eq, creditHeld]
      recovery := fun below known => by
        simp [contractedState, below, State.shedKnown_iff.mpr known]
      within := fun below unknown => by
        simp [contractedState, below, mt State.shedKnown_iff.mp unknown]
      burst := fun above left => by
        simp only [contractedState]
        rw [if_neg above.not_ge, if_pos left]
      overdrawn := fun above none => by
        simp only [contractedState]
        rw [if_neg above.not_ge, if_neg none.not_gt]
      lastTally := rfl }

end Sys2Proof.Machine
end

section
/-! TALLY_TIMER_EXPIRY and ENTER_RUN: every slot worked by its record (R40, R165). -/

namespace Sys2Proof.Machine

open Sys2Proof.Claims

variable {s : State} {k : SlotIx}

/-! ### The tally -/

theorem tallyRecord_readsOwnSlot : ReadsOwnSlot State.tallyRecord := by
  intro s slots nq k own
  have same : State.slot { s with tly := { s.tly with slots := slots }, nq := nq } k = s.slot k := own
  unfold State.tallyRecord
  rw [same]
  rfl

/-- The state in which a tally computes: the timer started again and the count risen (R38, R39). -/
def tallyStarted (s : State) : State :=
  { s with tly := { s.tly with timer := some 250000, count := (s.tly.count + 1) % 4294967296 } }

theorem exec_tallyTimerExpiry {left : Nat} (held : s.resetHeld = false) (timer : s.tly.timer = some left) :
    exec .tallyTimerExpiry s = .next (allSlots.foldl State.tallySlot (tallyStarted s)).handTally := by
  rw [exec, execTallyTimerExpiry, unlessHeld_free held, timer]
  rfl

/-- What a contracted slot's record is held to reads the count as a figure of its own, not from the state. -/
theorem talliedAs_of_started {n : Nat} {r : SlotRuntime} (h : TalliedAs (tallyStarted s) k n r) : TalliedAs s k n r :=
  { h with }

/-- Settles O33: the slots worked after the timer and the count, each record by the slot's own code. -/
theorem tallyComputesEverySlot : Obligations.TallyComputesEverySlot := by
  intro s left held timer n
  obtain ⟨t, ht⟩ : ∃ t, allSlots.foldl State.tallySlot (tallyStarted s) = t := ⟨_, rfl⟩
  obtain ⟨frame, records⟩ := tallyRecord_readsOwnSlot.foldl_eq ht
  refine ⟨t.handTally, ht ▸ exec_tallyTimerExpiry held timer, (congrArg State.handTally frame).trans rfl,
    fun k => ⟨fun free => ?_, fun used own => ?_, fun used own => ?_⟩⟩
  · exact (records k).trans (if_neg (ne_true_of_eq_false free))
  · exact ((records k).trans (if_pos used)).trans (State.tallyRecord_uncontracted own)
  · have record : t.slot k = (tallyStarted s).tallyRecord k := (records k).trans (if_pos used)
    exact talliedAs_of_started (record ▸ State.tallyRecord_contracted own)

/-! ### The entry into RUN -/

theorem runRecord_readsOwnSlot : ReadsOwnSlot State.runRecord := by
  intro s slots nq k own
  have same : State.slot { s with tly := { s.tly with slots := slots }, nq := nq } k = s.slot k := own
  unfold State.runRecord
  rw [same]
  rfl

/-- The last of the entry: the tally timer starts, and a listening link becomes ACTIVE (R38, R77). -/
def runStarted (s : State) : State :=
  { s with
    tly := { s.tly with timer := some 250000 }
    rlc := { s.rlc with link := if s.rlc.link = .listen then .active else s.rlc.link } }

theorem exec_enterRun {t : State} (held : s.resetHeld = false) (warm : s.mpt.phase = .warmup ∧ s.osu.warmup = 8)
    (ht : allSlots.foldl State.enterSlot { s with mpt := { s.mpt with phase := .run } } = t) :
    exec .enterRun s = .next (runStarted t) := by
  rw [exec, execEnterRun, unlessHeld_free held]
  refine congrArg _ ((if_pos warm).trans ?_)
  dsimp only at ht ⊢
  rw [ht]
  rfl

theorem exec_enterRun_early (held : s.resetHeld = false) (early : ¬ (s.mpt.phase = .warmup ∧ s.osu.warmup = 8)) :
    exec .enterRun s = .next s := by
  rw [exec, execEnterRun, unlessHeld_free held]
  exact congrArg _ (if_neg early)

theorem State.runRecord_contracted {c : Nat} (own : (s.tenant k).contractCode ≠ 0) (least : IsLeastCode s k c) :
    s.runRecord k = { s.slot k with
      contract := 100 * c
      allowance := 100 * c * (s.tenant k).burst
      credit := 100 * c * (s.tenant k).burst } := by
  rw [isLeastCode_eq least]
  exact if_neg own

/-- Settles O23: the slots worked in the new phase, each record by the slot's own code. -/
theorem enterRunFillsEveryCredit : Obligations.EnterRunFillsEveryCredit := by
  refine fun s held => ⟨fun phase warm => ?_, exec_enterRun_early held⟩
  obtain ⟨t, ht⟩ : ∃ t, allSlots.foldl State.enterSlot { s with mpt := { s.mpt with phase := .run } } = t :=
    ⟨_, rfl⟩
  obtain ⟨frame, records⟩ := runRecord_readsOwnSlot.foldl_eq ht
  refine ⟨runStarted t, exec_enterRun held ⟨phase, warm⟩ ht, (congrArg runStarted frame).trans rfl,
    fun k => ⟨fun free => ?_, fun used own => ?_, fun used own c least => ?_⟩⟩
  · exact (records k).trans (if_neg (ne_true_of_eq_false free))
  · exact ((records k).trans (if_pos used)).trans (if_pos own)
  · exact ((records k).trans (if_pos used)).trans (State.runRecord_contracted own least)

end Sys2Proof.Machine
end

section
/-! What leaves the row link as it is: one rule for each operation of the other blocks. -/

namespace Sys2Proof.Machine

/-! ### The Relay Sequencer -/

@[simp] theorem State.supersede_rlc (s : State) (o : OutletIx) : (s.supersede o).rlc = s.rlc := by
  unfold State.supersede
  split <;> rfl

@[simp] theorem State.enqueue_rlc (s : State) (a : Action) : (s.enqueue a).rlc = s.rlc := s.supersede_rlc a.outlet

@[simp] theorem State.chooseAt_rlc (s : State) (stamp : Nat) : (s.chooseAt stamp).rlc = s.rlc := by
  obtain ⟨outlets, rsq, nq, h⟩ := s.chooseAt_frame stamp
  rw [h]

@[simp] theorem State.choose_rlc (s : State) : s.choose.rlc = s.rlc := s.chooseAt_rlc _

@[simp] theorem State.retireDone_rlc (s : State) (a : Action) : (s.retireDone a).rlc = s.rlc := by
  unfold State.retireDone
  dsimp only
  split <;> rfl

@[simp] theorem State.retireTimeout_rlc (s : State) (a : Action) : (s.retireTimeout a).rlc = s.rlc := by
  unfold State.retireTimeout
  dsimp only
  split <;> rfl

@[simp] theorem State.retireFaulted_rlc (stamp : Nat) (s : State) (a : Action) :
    (s.retireFaulted stamp a).rlc = s.rlc := by
  unfold State.retireFaulted
  dsimp only
  split <;> rfl

@[simp] theorem State.checkOutlet_rlc (s : State) (o : OutletIx) : (s.checkOutlet o).rlc = s.rlc := by
  unfold State.checkOutlet
  split
  · rfl
  · dsimp only
    split <;> rfl

/-! ### Branch protection -/

@[simp] theorem State.unprotectable_rlc (s : State) (b : BranchIx) : (s.unprotectable b).rlc = s.rlc := by
  unfold State.unprotectable
  split <;> rfl

@[simp] theorem State.tripOutlet_rlc (s : State) (b : BranchIx) (o : OutletIx) : (s.tripOutlet b o).rlc = s.rlc := by
  simp [State.tripOutlet]

@[simp] theorem State.trip_rlc (s : State) (b : BranchIx) : (s.trip b).rlc = s.rlc := by
  unfold State.trip
  split
  · simp
  · split <;> simp

@[simp] theorem State.tripTest_rlc (s : State) (b : BranchIx) : (s.tripTest b).rlc = s.rlc := by
  unfold State.tripTest
  split <;> simp

@[simp] theorem State.setBranchHold_rlc (s : State) (b : BranchIx) (n : Nat) : (s.setBranchHold b n).rlc = s.rlc := rfl

@[simp] theorem State.restoreOutlet_rlc (s : State) (b : BranchIx) (o : OutletIx) :
    (s.restoreOutlet b o).rlc = s.rlc := by
  simp [State.restoreOutlet]

@[simp] theorem State.branchRestoreTest_rlc (s : State) (b : BranchIx) : (s.branchRestoreTest b).rlc = s.rlc := by
  unfold State.branchRestoreTest
  split
  · rfl
  · dsimp only
    split
    · split
      · split <;> simp
      · rfl
    · rfl

@[simp] theorem State.stepTripping_rlc (s : State) (b : BranchIx) (isOver : Bool) :
    (s.stepTripping b isOver).rlc = s.rlc := by
  unfold State.stepTripping
  dsimp only
  split
  · rfl
  · split
    · rfl
    · split <;> simp

@[simp] theorem State.stepBranchState_rlc (s : State) (b : BranchIx) : (s.stepBranchState b).rlc = s.rlc := by
  unfold State.stepBranchState
  dsimp only
  split
  · split <;> simp
  · split
    · simp
    · split <;> simp
  · split <;> simp
  · simp

@[simp] theorem State.stepBranch_rlc (s : State) (b : BranchIx) : (s.stepBranch b).rlc = s.rlc := by
  simp [State.stepBranch]

/-! ### Metering, the tally and the energy counters -/

@[simp] theorem State.dispose_rlc (s : State) (o : OutletIx) (outcome : Option FrontEndReply) :
    (s.dispose o outcome).rlc = s.rlc := by
  cases outcome with
  | none => rw [State.dispose_silent]; rfl
  | some r => rw [State.dispose_reply]; rfl

@[simp] theorem State.startSweep_rlc (s : State) : s.startSweep.rlc = s.rlc := by
  unfold State.startSweep
  dsimp only
  split <;> rfl

@[simp] theorem State.handSweep_rlc (s : State) : s.handSweep.rlc = s.rlc := by
  unfold State.handSweep
  split <;> rfl

@[simp] theorem State.completeSweep_rlc (s : State) : s.completeSweep.rlc = s.rlc := by
  unfold State.completeSweep
  dsimp only
  split <;> simp

@[simp] theorem State.visit_rlc (s : State) (outcome : Option FrontEndReply) : (s.visit outcome).rlc = s.rlc := by
  unfold State.visit State.endVisit
  split <;> simp

@[simp] theorem State.sensorFailed_rlc (s : State) : s.sensorFailed.rlc = s.rlc := by
  unfold State.sensorFailed
  split <;> rfl

@[simp] theorem State.storeSlot_rlc (s : State) (k : SlotIx) (x : SlotRuntime) : (s.storeSlot k x).rlc = s.rlc := by
  unfold State.storeSlot
  dsimp only
  split <;> rfl

@[simp] theorem State.tallySlot_rlc (s : State) (k : SlotIx) : (s.tallySlot k).rlc = s.rlc := by
  unfold State.tallySlot
  split <;> simp

@[simp] theorem State.addOutletEnergy_rlc (stamp : Nat) (s : State) (o : OutletIx) :
    (s.addOutletEnergy stamp o).rlc = s.rlc := by
  unfold State.addOutletEnergy
  dsimp only
  split <;> rfl

@[simp] theorem State.addSlotEnergy_rlc (stamp : Nat) (s : State) (k : SlotIx) :
    (s.addSlotEnergy stamp k).rlc = s.rlc := by
  unfold State.addSlotEnergy
  dsimp only
  split <;> rfl

@[simp] theorem State.addOverage_rlc (stamp : Nat) (s : State) (k : SlotIx) : (s.addOverage stamp k).rlc = s.rlc := by
  unfold State.addOverage
  dsimp only
  split
  · rfl
  · split <;> rfl

@[simp] theorem State.accountSlot_rlc (stamp : Nat) (s : State) (k : SlotIx) : (s.accountSlot stamp k).rlc = s.rlc := by
  unfold State.accountSlot
  split <;> simp

/-! ### The Contribution Table -/

@[simp] theorem State.checkMismatch_rlc (s : State) (i : PlaceIx) (e : DynEntry) :
    (s.checkMismatch i e).rlc = s.rlc := by
  unfold State.checkMismatch
  split
  · rfl
  · split
    · rfl
    · split <;> rfl

@[simp] theorem State.refuseCreation_rlc (s : State) (k : SlotIx) (station : Nat) :
    (s.refuseCreation k station).rlc = s.rlc := by
  unfold State.refuseCreation
  split <;> rfl

@[simp] theorem State.learn_rlc (s : State) (station stamp : Nat) (k : SlotIx) (e : SummaryEntry) :
    (s.learn station stamp k e).rlc = s.rlc := by
  unfold State.learn
  split
  · rfl
  · split
    · simp
    · split <;> simp

@[simp] theorem State.learnSummary_rlc (s : State) (station stamp : Nat) (l : List SummaryEntry) :
    (s.learnSummary station stamp l).rlc = s.rlc :=
  foldl_fixes (g := State.rlc) (fun u e => by split <;> simp) l s

@[simp] theorem State.ageEntry_rlc (s : State) (i : PlaceIx) : (s.ageEntry i).rlc = s.rlc := by
  unfold State.ageEntry
  split
  · rfl
  · split <;> rfl

@[simp] theorem State.applyNote_rlc (s : State) (n : HeardNote) : (s.applyNote n).rlc = s.rlc := by
  unfold State.applyNote
  split
  · rfl
  · split <;> rfl

/-! ### The port and the start-up -/

@[simp] theorem State.load_rlc {α : Type} (s : State) (code : Byte) (params : Option α) {write : State → α → State}
    (h : ∀ u p, (write u p).rlc = u.rlc) : (s.load code params write).rlc = s.rlc := by
  rcases s.load_cases code params write with ⟨-, e⟩ | ⟨-, -, e⟩ | ⟨p, -, -, e⟩ <;> rw [e]
  · rfl
  · rfl
  · exact h s p

@[simp] theorem State.openByStanding_rlc (s : State) (o : OutletIx) : (s.openByStanding o).rlc = s.rlc := by
  unfold State.openByStanding
  dsimp only
  split
  · split <;> simp
  all_goals rfl

@[simp] theorem State.closeManual_rlc (s : State) (o : OutletIx) : (s.closeManual o).rlc = s.rlc := by
  unfold State.closeManual
  dsimp only
  split <;> simp

@[simp] theorem State.acceptRearm_rlc (s : State) (o : OutletIx) : (s.acceptRearm o).rlc = s.rlc := by
  have flushed := foldl_fixes (g := State.rlc) (State.retireFaulted_rlc s.tly.count) (s.rsq.allQueuedFor o)
    { s with rsq := s.rsq.remove o }
  simpa [State.acceptRearm] using flushed

@[simp] theorem State.rearmFaulted_rlc (s : State) (o : OutletIx) : (s.rearmFaulted o).rlc = s.rlc := by
  unfold State.rearmFaulted
  split
  · split <;> simp
  · split
    · rfl
    · split <;> simp

theorem State.outletCommand_rlc (s : State) (code : Byte) (index : Nat) {work : State → OutletIx → State}
    (h : ∀ u o, (work u o).rlc = u.rlc) : (s.outletCommand code index work).rlc = s.rlc := by
  unfold State.outletCommand
  split
  · rfl
  · split
    · exact h _ _
    · rfl

@[simp] theorem State.clear_rlc (s : State) (t : ClearTarget) : (s.clear t).rlc = s.rlc := by cases t <;> rfl

@[simp] theorem State.leavePulse_rlc (s : State) (f : Option InFlight) : (s.leavePulse f).rlc = s.rlc := by
  unfold State.leavePulse
  split
  · split <;> rfl
  · rfl

end Sys2Proof.Machine
end

section
/-! The transmit queue by its operations: what a hand-over, a return and a hand-down leave of it (R72 to R74). -/

namespace Sys2Proof.Machine

open Sys2Proof.Safety Sys2Proof.Claims

variable {r : Rlc} {c : FrameContent} {f : TxFrame} {i : Nat}

/-! ### Kinds of frames -/

/-- A frame is a NOTE, an ANNOUNCE, or a SUMMARY with a segment index (R65, R72). -/
theorem TxFrame.kind_cases (f : TxFrame) : f.content.cls = 0 ∨ f.content.cls = 2 ∨ ∃ i, f.segment = some i := by
  obtain ⟨c, n⟩ := f
  cases c with
  | announce slots => exact .inr (.inl rfl)
  | summary stamp i last entries => exact .inr (.inr ⟨i, rfl⟩)
  | note id d rank draw stamp => exact .inl rfl

theorem TxFrame.cls_of_segment (h : f.segment = some i) : f.content.cls = 1 := by
  obtain ⟨c, n⟩ := f
  cases c with
  | announce slots => cases h
  | summary stamp i last entries => rfl
  | note id d rank draw stamp => cases h

theorem TxFrame.segment_eq_none (h : f.content.cls ≠ 1) : f.segment = none := by
  cases hs : f.segment with
  | none => rfl
  | some i => exact absurd (TxFrame.cls_of_segment hs) h

theorem isNote_iff : isNote f = true ↔ f.content.cls = 0 := beq_iff_eq

theorem isNote_eq_false (h : f.content.cls ≠ 0) : isNote f = false := Bool.eq_false_iff.mpr (mt isNote_iff.mp h)

theorem isNote_of_segment (h : f.segment = some i) : isNote f = false :=
  isNote_eq_false (by simp [TxFrame.cls_of_segment h])

/-! ### A SUMMARY handed over -/

theorem Rlc.hasSegment_iff : r.hasSegment i = true ↔ ∃ f ∈ r.otherRun, f.segment = some i := by
  simp [Rlc.hasSegment]

/-- The frame that stands for a queued one once a newer SUMMARY of this index has come (R73). -/
def TxFrame.replaced (i : Nat) (c : FrameContent) (f : TxFrame) : TxFrame := if f.segment = some i then ⟨c, 0⟩ else f

theorem Rlc.putSummary_waiting (h : ∃ f ∈ r.otherRun, f.segment = some i) :
    r.putSummary i c = { r with otherRun := r.otherRun.map (TxFrame.replaced i c) } :=
  if_pos (Rlc.hasSegment_iff.mpr h)

theorem Rlc.putSummary_room (h : ¬ ∃ f ∈ r.otherRun, f.segment = some i) (room : r.queued < 8) :
    r.putSummary i c = { r with otherRun := r.otherRun ++ [⟨c, 0⟩] } :=
  (if_neg (mt Rlc.hasSegment_iff.mp h)).trans (if_pos room)

theorem Rlc.putSummary_full (h : ¬ ∃ f ∈ r.otherRun, f.segment = some i) (full : ¬ r.queued < 8) :
    r.putSummary i c = r :=
  (if_neg (mt Rlc.hasSegment_iff.mp h)).trans (if_neg full)

theorem map_replaced_of_others {l : List TxFrame} (h : ∀ g ∈ l, g.segment ≠ some i) :
    l.map (TxFrame.replaced i c) = l :=
  (List.map_congr_left fun g hg => if_neg (h g hg)).trans (List.map_id l)

/-! ### A NOTE handed over -/

theorem Rlc.putNote_room (room : r.queued < 8) : r.putNote c = { r with noteRun := r.noteRun ++ [⟨c, 0⟩] } :=
  if_pos room

theorem Rlc.putNote_evicts {oldest : TxFrame} {rest : List TxFrame} (full : ¬ r.queued < 8)
    (h : r.otherRun = oldest :: rest) :
    r.putNote c = { r with otherRun := rest, noteRun := r.noteRun ++ [⟨c, 0⟩], tryOther := false } := by
  refine (if_neg full).trans ?_
  rw [h]

theorem Rlc.putNote_full (full : ¬ r.queued < 8) (h : r.otherRun = []) : r.putNote c = r := by
  refine (if_neg full).trans ?_
  rw [h]

/-! ### A frame back from the line -/

theorem Rlc.putBack_note (h : f.content.cls = 0) : r.putBack f = { r with noteRun := f :: r.noteRun } := by
  unfold Rlc.putBack
  split
  · rfl
  · next hc => simp [hc, FrameContent.cls] at h
  · next hc => simp [hc, FrameContent.cls] at h

theorem Rlc.putBack_announce (h : f.content.cls = 2) : r.putBack f = { r with otherRun := f :: r.otherRun } := by
  unfold Rlc.putBack
  split
  · next hc => simp [hc, FrameContent.cls] at h
  · next hc => simp [hc, FrameContent.cls] at h
  · rfl

theorem Rlc.putBack_summary (h : f.segment = some i) :
    r.putBack f = if r.hasSegment i then r else { r with otherRun := f :: r.otherRun } := by
  unfold Rlc.putBack
  unfold TxFrame.segment at h
  split <;> simp_all

theorem Rlc.putBack_superseded (h : f.segment = some i) (newer : ∃ g ∈ r.otherRun, g.segment = some i) :
    r.putBack f = r :=
  (Rlc.putBack_summary h).trans (if_pos (Rlc.hasSegment_iff.mpr newer))

theorem Rlc.putBack_segment (h : f.segment = some i) (newest : ¬ ∃ g ∈ r.otherRun, g.segment = some i) :
    r.putBack f = { r with otherRun := f :: r.otherRun } :=
  (Rlc.putBack_summary h).trans (if_neg (mt Rlc.hasSegment_iff.mp newest))

/-- Settles O43: each hand-over, and each return from the line, by what waits and whether there is room. -/
theorem transmitQueueRules : Obligations.TransmitQueueRules := by
  intro r c room waits
  refine ⟨fun i pre f post h hf others => ?_, fun i free => Rlc.putSummary_room free,
    fun i free => Rlc.putSummary_full free, Rlc.putNote_room, fun oldest rest => Rlc.putNote_evicts, Rlc.putNote_full,
    fun f => ⟨Rlc.putBack_note, Rlc.putBack_announce, fun i hf => ⟨Rlc.putBack_superseded hf, Rlc.putBack_segment hf⟩⟩⟩
  obtain ⟨before, behind⟩ := List.forall_mem_append.mp others
  rw [Rlc.putSummary_waiting ⟨f, by simp [h], hf⟩, h, List.map_append, List.map_cons, map_replaced_of_others before,
    map_replaced_of_others behind, TxFrame.replaced, if_pos hf]

end Sys2Proof.Machine
end

section
/-! What every step keeps of the row link (R66, R72, R75, R77, R78, R80): its rules by their parts, and one rule for
each of its operations. -/

namespace Sys2Proof.Machine

open Sys2Proof.Safety Sys2Proof.Claims

variable {s : State} {r : Rlc} {c : FrameContent} {f : TxFrame} {i : Nat}

/-! ### The rules by their parts -/

/-- LinkHolds by its parts, without the phase. -/
structure Rlc.Stands (r : Rlc) : Prop where
  stillEmpty : r.link = .off ∨ r.link = .silent → r.queued = 0
  bounded : r.queued ≤ 8
  onLine : ∀ f ∈ r.onLine, f.attempts ≤ 3
  notes : ∀ f ∈ r.noteRun, isNote f = true ∧ f.attempts ≤ 3
  others : ∀ f ∈ r.otherRun, isNote f = false ∧ f.attempts ≤ 3
  segments : (r.otherRun.filterMap (·.segment)).Nodup
  failures : r.failures ≤ 16
  rxErrors : r.rxErrors ≤ 65535
  retry : r.retry.isSome = true ↔ r.link = .down
  tryInDown : r.tryOn = true → r.link = .down
  lineUnderTry : r.link = .down → r.onLine ≠ none → r.tryOn = true
  tryOther : r.tryOther = true → r.tryOn = true ∧ r.onLine = none ∧ r.otherRun ≠ []

theorem linkHolds_iff (s : State) :
    LinkHolds s ↔ (s.mpt.phase = .config → s.rlc.link = .off) ∧ s.rlc.Stands := by
  constructor
  · rintro ⟨hp, he, hb, ha, hn, ho, hseg, hf, hrx, hret, htry, hline, hother⟩
    simp only [List.mem_append, or_imp, forall_and, Option.mem_toList] at ha
    obtain ⟨⟨hal, han⟩, hao⟩ := ha
    exact ⟨hp, he, hb, hal, fun f h => ⟨hn f h, han f h⟩, fun f h => ⟨ho f h, hao f h⟩, hseg, hf, hrx, hret, htry,
      hline, hother⟩
  · rintro ⟨hp, h⟩
    refine ⟨hp, h.stillEmpty, h.bounded, ?_, fun f hf => (h.notes f hf).1, fun f hf => (h.others f hf).1, h.segments,
      h.failures, h.rxErrors, h.retry, h.tryInDown, h.lineUnderTry, h.tryOther⟩
    simp only [List.mem_append, or_imp, forall_and, Option.mem_toList]
    exact ⟨⟨h.onLine, fun f hf => (h.notes f hf).2⟩, fun f hf => (h.others f hf).2⟩

/-- The link is in a state in which frames may wait (R72). -/
def Rlc.Carries (r : Rlc) : Prop := r.link ≠ .off ∧ r.link ≠ .silent

/-- A queue that carries frames need not be empty. -/
theorem Rlc.Carries.absurdStill {p : Prop} (h : r.Carries) (still : r.link = .off ∨ r.link = .silent) : p :=
  (still.elim h.1 h.2).elim

theorem Rlc.Stands.carries_of_onLine (h : r.Stands) (hf : r.onLine = some f) : r.Carries := by
  have busy : r.queued ≠ 0 := by simp [Rlc.queued, hf]
  exact ⟨fun e => busy (h.stillEmpty (.inl e)), fun e => busy (h.stillEmpty (.inr e))⟩

theorem Rlc.Stands.tryOther_of_onLine (h : r.Stands) (hf : r.onLine = some f) : r.tryOther = false :=
  Bool.eq_false_iff.mpr fun ht => by simpa [hf] using (h.tryOther ht).2.1

/-! ### The queue's runs -/

/-- A NOTE joins its run, at whichever end. -/
theorem Rlc.Stands.addNote (h : r.Stands) (carries : r.Carries) (room : r.queued < 8) (note : isNote f = true)
    (attempts : f.attempts ≤ 3) {l : List TxFrame} (perm : l.Perm (f :: r.noteRun)) :
    ({ r with noteRun := l } : Rlc).Stands :=
  { h with
    stillEmpty := carries.absurdStill
    bounded := by
      have := perm.length_eq
      simp only [Rlc.queued, List.length_cons] at this room ⊢
      omega
    notes := fun g hg => by
      rcases List.mem_cons.mp (perm.mem_iff.mp hg) with rfl | hg
      · exact ⟨note, attempts⟩
      · exact h.notes g hg }

/-- A SUMMARY or ANNOUNCE joins its run, at whichever end; a SUMMARY only if none of its index waits. -/
theorem Rlc.Stands.addOther (h : r.Stands) (carries : r.Carries) (room : r.queued < 8) (note : isNote f = false)
    (attempts : f.attempts ≤ 3) (fresh : ∀ i, f.segment = some i → ¬ ∃ g ∈ r.otherRun, g.segment = some i)
    {l : List TxFrame} (perm : l.Perm (f :: r.otherRun)) : ({ r with otherRun := l } : Rlc).Stands :=
  { h with
    stillEmpty := carries.absurdStill
    bounded := by
      have := perm.length_eq
      simp only [Rlc.queued, List.length_cons] at this room ⊢
      omega
    others := fun g hg => by
      rcases List.mem_cons.mp (perm.mem_iff.mp hg) with rfl | hg
      · exact ⟨note, attempts⟩
      · exact h.others g hg
    segments := by
      refine (perm.filterMap _).nodup_iff.mpr ?_
      cases hs : f.segment with
      | none => simpa [hs] using h.segments
      | some i => simpa [hs, h.segments] using fresh i hs
    tryOther := fun ht =>
      ⟨(h.tryOther ht).1, (h.tryOther ht).2.1, fun e => by simpa [show l = [] from e] using perm.length_eq⟩ }

/-- The oldest SUMMARY or ANNOUNCE leaves its run; a try meant for it is then for the new head (R74). -/
theorem Rlc.Stands.evict (h : r.Stands) {rest : List TxFrame} (hl : r.otherRun = f :: rest) :
    ({ r with otherRun := rest, tryOther := false } : Rlc).Stands :=
  { h with
    stillEmpty := fun still => by
      have := h.stillEmpty still
      simp [Rlc.queued, hl] at this
    bounded := by
      have := h.bounded
      simp only [Rlc.queued, hl, List.length_cons] at this ⊢
      omega
    others := fun g hg => h.others g (hl ▸ List.mem_cons_of_mem f hg)
    segments := ((hl ▸ List.sublist_cons_self f rest).filterMap _).nodup h.segments
    tryOther := nofun }

/-- A SUMMARY replaces the one of its index that waits, in place (R73). -/
theorem Rlc.Stands.replace (h : r.Stands) (hc : ∀ n, TxFrame.segment ⟨c, n⟩ = some i) :
    ({ r with otherRun := r.otherRun.map (TxFrame.replaced i c) } : Rlc).Stands :=
  have same : ∀ f, (TxFrame.replaced i c f).segment = f.segment := fun f => by
    unfold TxFrame.replaced
    split
    · next hf => rw [hf, hc]
    · rfl
  { h with
    stillEmpty := fun still => by simpa [Rlc.queued] using h.stillEmpty still
    bounded := by simpa [Rlc.queued] using h.bounded
    others := fun g hg => by
      obtain ⟨f, hf, rfl⟩ := List.mem_map.mp hg
      unfold TxFrame.replaced
      split
      · exact ⟨isNote_of_segment (hc 0), Nat.zero_le 3⟩
      · exact h.others f hf
    segments := by simpa [List.filterMap_map, Function.comp_def, same] using h.segments
    tryOther := fun ht => ⟨(h.tryOther ht).1, (h.tryOther ht).2.1, by simpa using (h.tryOther ht).2.2⟩ }

/-! ### Hand-overs and returns -/

theorem Rlc.Stands.putSummary (h : r.Stands) (carries : r.Carries) (hc : ∀ n, TxFrame.segment ⟨c, n⟩ = some i) :
    (r.putSummary i c).Stands := by
  by_cases waits : ∃ f ∈ r.otherRun, f.segment = some i
  · rw [Rlc.putSummary_waiting waits]
    exact h.replace hc
  · by_cases room : r.queued < 8
    · rw [Rlc.putSummary_room waits room]
      refine h.addOther carries room (isNote_of_segment (hc 0)) (Nat.zero_le 3)
        (fun j hj => ?_) (List.perm_append_singleton _ _)
      rwa [← Option.some.inj ((hc 0).symm.trans hj)]
    · rwa [Rlc.putSummary_full waits room]

theorem Rlc.Stands.putNote (h : r.Stands) (carries : r.Carries) (hc : c.cls = 0) : (r.putNote c).Stands := by
  have note : isNote ⟨c, 0⟩ = true := isNote_iff.mpr hc
  by_cases room : r.queued < 8
  · rw [Rlc.putNote_room room]
    exact h.addNote carries room note (Nat.zero_le 3) (List.perm_append_singleton _ _)
  · cases hl : r.otherRun with
    | nil => rwa [Rlc.putNote_full room hl]
    | cons oldest rest =>
      rw [Rlc.putNote_evicts room hl]
      have evicted : ({ r with otherRun := rest, tryOther := false } : Rlc).queued < 8 := by
        have := h.bounded
        simp only [Rlc.queued, hl, List.length_cons] at this ⊢
        omega
      exact (h.evict hl).addNote carries evicted note (Nat.zero_le 3) (List.perm_append_singleton _ _)

theorem Rlc.Stands.putBack (h : r.Stands) (carries : r.Carries) (room : r.queued < 8) (attempts : f.attempts ≤ 3) :
    (r.putBack f).Stands := by
  rcases f.kind_cases with hf | hf | ⟨i, hf⟩
  · rw [Rlc.putBack_note hf]
    exact h.addNote carries room (isNote_iff.mpr hf) attempts (.refl _)
  · rw [Rlc.putBack_announce hf]
    refine h.addOther carries room (isNote_eq_false (by simp [hf])) attempts (fun i hi => ?_) (.refl _)
    exact absurd hi (by simp [TxFrame.segment_eq_none (f := f) (by simp [hf])])
  · by_cases newer : ∃ g ∈ r.otherRun, g.segment = some i
    · rwa [Rlc.putBack_superseded hf newer]
    · rw [Rlc.putBack_segment hf newer]
      refine h.addOther carries room (isNote_of_segment hf) attempts (fun j hj => ?_)
        (.refl _)
      rwa [← Option.some.inj (hf.symm.trans hj)]

/-! ### The line -/

/-- The frame on the line is taken off it, whatever becomes of it; with it goes its try, or not. -/
theorem Rlc.Stands.clearLine (h : r.Stands) (hf : r.onLine = some f) :
    ({ r with onLine := none } : Rlc).Stands ∧ ({ r with onLine := none } : Rlc).queued < 8 := by
  have bound := h.bounded
  simp only [Rlc.queued, hf, Option.toList_some, List.length_singleton] at bound
  have room : ({ r with onLine := none } : Rlc).queued < 8 := by
    simp only [Rlc.queued, Option.toList_none, List.length_nil]
    omega
  exact ⟨{ h with
    stillEmpty := (h.carries_of_onLine hf).absurdStill
    bounded := room.le
    onLine := nofun
    lineUnderTry := fun _ hn => absurd rfl hn
    tryOther := fun ht => by simp [h.tryOther_of_onLine hf] at ht }, room⟩

/-- The failure count is set within its range. -/
theorem Rlc.Stands.setFailures (h : r.Stands) {n : Nat} (hn : n ≤ 16) : ({ r with failures := n } : Rlc).Stands :=
  { h with failures := hn }

/-- A try that has no frame on the line ends (R78). -/
theorem Rlc.Stands.endTry (h : r.Stands) (hn : r.onLine = none) :
    ({ r with tryOn := false, tryOther := false } : Rlc).Stands :=
  { h with tryInDown := nofun, lineUnderTry := fun _ hl => absurd hn hl, tryOther := nofun }

theorem Rlc.Stands.takeHead (h : r.Stands) (idle : r.onLine = none) (may : r.mayContend = true) :
    r.takeHead.Stands := by
  have underTry : r.link = .down → r.tryOn = true := fun hd => by simpa [Rlc.mayContend, hd] using may
  have carries : r.Carries :=
    ⟨fun e => by simp [Rlc.mayContend, e] at may, fun e => by simp [Rlc.mayContend, e] at may⟩
  have bound := h.bounded
  rcases r.takeHead_cases with ⟨-, -, e⟩ | ⟨f, rest, hl, -, e⟩ | ⟨f, rest, hl, -, e⟩ <;> rw [e]
  · exact h
  · simp only [Rlc.queued, idle, hl, Option.toList_none, List.length_nil, List.length_cons] at bound
    exact { h with
      stillEmpty := carries.absurdStill
      bounded := by simp only [Rlc.queued, Option.toList_some, List.length_singleton]; omega
      onLine := fun g hg => (h.notes g (by simp [hl, Option.mem_some.mp hg])).2
      notes := fun g hg => h.notes g (hl ▸ List.mem_cons_of_mem f hg)
      lineUnderTry := fun hd _ => underTry hd
      tryOther := nofun }
  · simp only [Rlc.queued, idle, hl, Option.toList_none, List.length_nil, List.length_cons] at bound
    exact { h.evict hl with
      stillEmpty := carries.absurdStill
      bounded := by simp only [Rlc.queued, Option.toList_some, List.length_singleton]; omega
      onLine := fun g hg => (h.others g (by simp [hl, Option.mem_some.mp hg])).2
      lineUnderTry := fun hd _ => underTry hd
      tryOther := nofun }

theorem Rlc.Stands.failed (h : r.Stands) (hf : r.onLine = some f) : (r.failed f).Stands := by
  obtain ⟨cleared, room⟩ := h.clearLine hf
  have ended := (cleared.endTry rfl).setFailures (Nat.min_le_right (r.failures + 1) 16)
  unfold Rlc.failed
  dsimp only
  split
  · next hn => exact ended.putBack (h.carries_of_onLine hf) room (Nat.le_of_lt_succ hn)
  · exact ended

theorem Rlc.Stands.allowTry (h : r.Stands) (running : r.retry.isSome = true) : r.allowTry.Stands := by
  have down := h.retry.mp running
  rcases r.allowTry_cases with ⟨-, e⟩ | ⟨off, e⟩ <;> rw [e]
  · exact h
  · exact { h with
      tryInDown := fun _ => down
      lineUnderTry := fun hd hl => absurd (h.lineUnderTry hd hl) (by simp [off])
      tryOther := fun ht => by
        simp only [Bool.and_eq_true, Option.isNone_iff_eq_none, Bool.not_eq_true', List.isEmpty_eq_false_iff] at ht
        obtain ⟨⟨hl, -⟩, ho⟩ := ht
        exact ⟨by simp [Rlc.queued, List.length_pos_iff.mpr ho], hl, ho⟩ }

/-- The retry timer rewritten, running or not as it was. -/
theorem Rlc.Stands.setRetry (h : r.Stands) {x : Timer} (hx : x.isSome = r.retry.isSome) :
    ({ r with retry := x } : Rlc).Stands :=
  { h with retry := by rw [show x.isSome = r.retry.isSome from hx]; exact h.retry }

end Sys2Proof.Machine
end

section
/-! The row link through every step (O58): the changes of the link's state, the commands that work on the link, and the
others, which leave it. -/

namespace Sys2Proof.Machine

open Sys2Proof.Safety

variable {s t : State} {r : Rlc}

/-! ### The link's state -/

theorem Rlc.reset_stands : Rlc.reset.Stands := by
  constructor <;> simp [Rlc.reset, Rlc.queued]

/-- A link that is not DOWN goes on to LISTEN or ACTIVE (R77). -/
theorem Rlc.Stands.moveLink (h : r.Stands) (notDown : r.link ≠ .down) {l : Link} (hl : l = .listen ∨ l = .active) :
    ({ r with link := l } : Rlc).Stands :=
  have moved : l ≠ .down ∧ l ≠ .off ∧ l ≠ .silent := by rcases hl with rfl | rfl <;> decide
  { h with
    stillEmpty := fun still => (still.elim moved.2.1 moved.2.2).elim
    retry := ⟨fun hr => absurd (h.retry.mp hr) notDown, fun hd => absurd hd moved.1⟩
    tryInDown := fun ht => absurd (h.tryInDown ht) notDown
    lineUnderTry := fun hd _ => absurd hd moved.1 }

/-- A success in DOWN brings the link back to ACTIVE, its retry timer stopped and its try over (R78). -/
theorem Rlc.Stands.linkUp (h : r.Stands) :
    ({ r with link := .active, retry := none, tryOn := false, tryOther := false } : Rlc).Stands :=
  { h with
    stillEmpty := nofun
    retry := ⟨nofun, nofun⟩
    tryInDown := nofun
    lineUnderTry := nofun
    tryOther := nofun }

/-- The sixteenth failure takes an ACTIVE link to DOWN and starts its retry timer (R66, R78). -/
theorem Rlc.Stands.linkDown (h : r.Stands) (idle : r.onLine = none) (n : Nat) :
    ({ r with link := .down, retry := some n } : Rlc).Stands :=
  { h with
    stillEmpty := nofun
    retry := ⟨fun _ => rfl, fun _ => rfl⟩
    tryInDown := fun _ => rfl
    lineUnderTry := fun _ hn => absurd idle hn }

/-- The entry into SILENT drops every frame (R79, R80). -/
theorem Rlc.Stands.silence (h : r.Stands) :
    ({ r with
      link := .silent, onLine := none, noteRun := [], otherRun := [], retry := none, tryOn := false
      tryOther := false } : Rlc).Stands :=
  { h with
    stillEmpty := fun _ => rfl
    bounded := Nat.zero_le 8
    onLine := nofun
    notes := nofun
    others := nofun
    segments := List.nodup_nil
    retry := ⟨nofun, nofun⟩
    tryInDown := nofun
    lineUnderTry := nofun
    tryOther := nofun }

/-! ### Work within a phase -/

/-- Work on the link within a phase: it keeps the link's rules, and an OFF link stays OFF. -/
structure Rlc.WorksTo (r q : Rlc) : Prop where
  stands : r.Stands → q.Stands
  off : r.link = .off → q.link = .off

theorem Rlc.WorksTo.refl (r : Rlc) : r.WorksTo r := ⟨id, id⟩

theorem Rlc.WorksTo.of_eq {r q : Rlc} (h : q = r) : r.WorksTo q := h ▸ .refl r

theorem Rlc.WorksTo.trans {r p q : Rlc} (h : r.WorksTo p) (k : p.WorksTo q) : r.WorksTo q :=
  ⟨k.stands ∘ h.stands, k.off ∘ h.off⟩

/-- Work that leaves the link's state. -/
theorem Rlc.WorksTo.of_link {r q : Rlc} (stands : r.Stands → q.Stands) (link : q.link = r.link) : r.WorksTo q :=
  ⟨stands, link.trans⟩

theorem linkHolds_of_works (h : LinkHolds s) (phase : t.mpt.phase = s.mpt.phase) (w : s.rlc.WorksTo t.rlc) :
    LinkHolds t := by
  obtain ⟨off, stands⟩ := (linkHolds_iff s).mp h
  exact (linkHolds_iff t).mpr ⟨fun hc => w.off (off (phase ▸ hc)), w.stands stands⟩

theorem Rlc.accepts_iff : r.accepts = true ↔ r.link = .active ∨ r.link = .down := by simp [Rlc.accepts]

/-- Where frames are accepted they may wait: in ACTIVE and DOWN. -/
theorem Rlc.carries_of_accepts (h : r.accepts = true) : r.Carries := by
  unfold Rlc.Carries
  rcases Rlc.accepts_iff.mp h with e | e <;> rw [e] <;> decide

theorem Rlc.putNote_link (r : Rlc) (c : FrameContent) : (r.putNote c).link = r.link := by
  unfold Rlc.putNote
  split
  · rfl
  · split <;> rfl

theorem Rlc.putSummary_link (r : Rlc) (i : Nat) (c : FrameContent) : (r.putSummary i c).link = r.link := by
  unfold Rlc.putSummary
  split
  · rfl
  · split <;> rfl

theorem State.sendNote_worksTo (s : State) (id : Nat) (d : NoteDirection) (rank draw : Nat) :
    s.rlc.WorksTo (s.sendNote id d rank draw).rlc := by
  unfold State.sendNote
  split
  · next ha => exact .of_link (fun h => h.putNote (Rlc.carries_of_accepts ha) rfl) (s.rlc.putNote_link _)
  · exact .refl _

theorem State.sendSummaries_worksTo (ha : s.rlc.accepts = true) : s.rlc.WorksTo s.sendSummaries.rlc := by
  have carries := Rlc.carries_of_accepts ha
  have first (last : Bool) (slots : List SlotIx) : s.rlc.WorksTo (s.rlc.putSummary 0 (s.segmentFrame 0 last slots)) :=
    .of_link (fun h => h.putSummary carries fun _ => rfl) (s.rlc.putSummary_link _ _)
  unfold State.sendSummaries
  dsimp only
  split
  · exact .refl _
  · split
    · exact first _ _
    · refine (first _ _).trans (.of_link (fun h => h.putSummary ?_ fun _ => rfl) (Rlc.putSummary_link _ _ _))
      rwa [Rlc.Carries, Rlc.putSummary_link]

theorem State.handTally_worksTo (s : State) : s.rlc.WorksTo s.handTally.rlc := .of_link (fun h => { h with }) rfl

theorem Rlc.putBack_onLine (r : Rlc) (f : TxFrame) : (r.putBack f).onLine = r.onLine := by
  unfold Rlc.putBack
  split
  · rfl
  · split <;> rfl
  · rfl

theorem Rlc.failed_onLine (r : Rlc) (f : TxFrame) : (r.failed f).onLine = none := by
  unfold Rlc.failed
  dsimp only
  split
  · exact Rlc.putBack_onLine _ _
  · rfl

theorem Rlc.allowTry_retry (r : Rlc) : r.allowTry.retry = r.retry := by
  rcases r.allowTry_cases with ⟨-, e⟩ | ⟨-, e⟩ <;> rw [e]

/-! ### Commands that work on the link -/

/-- The answer of an outcome is work on the link within a phase. -/
def LinkWorks (s : State) (o : Host.Outcome State Fault Refusal) : Prop := ∀ t, o = .next t → s.rlc.WorksTo t.rlc

theorem linkWorks_unlessHeld {f : State → State} (h : s.rlc.WorksTo (f s).rlc) : LinkWorks s (unlessHeld s f) := by
  rintro t ⟨⟩
  split
  · exact .refl _
  · exact h

theorem execRlcTallyCompletion_linkWorks (s : State) : LinkWorks s (execRlcTallyCompletion s) := by
  refine linkWorks_unlessHeld ?_
  split
  · exact .refl _
  · next n rest _ =>
    have taken : s.rlc.WorksTo { s.rlc with tallies := rest } := .of_link (fun h => { h with }) rfl
    dsimp only
    split
    · next due =>
      refine taken.trans (State.sendSummaries_worksTo (s := { s with rlc := { s.rlc with tallies := rest } }) ?_)
      exact due.2
    · exact taken

theorem execContendOnIdleLine_linkWorks (s : State) : LinkWorks s (execContendOnIdleLine s) := by
  refine linkWorks_unlessHeld ?_
  split
  · next free =>
    exact .of_link (fun h => h.takeHead (Option.isNone_iff_eq_none.mp free.1) free.2) s.rlc.takeHead_frame.1
  · exact .refl _

theorem execArbitrationLost_linkWorks (s : State) : LinkWorks s (execArbitrationLost s) := by
  refine linkWorks_unlessHeld ?_
  split
  · exact .refl _
  · next f hf =>
    refine .of_link (fun h => ?_) (Rlc.putBack_frame _ f).1
    obtain ⟨cleared, room⟩ := h.clearLine hf
    exact cleared.putBack (h.carries_of_onLine hf) room (h.onLine f hf)

theorem execTransmitSuccess_linkWorks (s : State) : LinkWorks s (execTransmitSuccess s) := by
  refine linkWorks_unlessHeld ?_
  split
  · exact .refl _
  · next f hf =>
    have sent : s.rlc.Stands → ({ s.rlc with onLine := none, failures := 0 } : Rlc).Stands :=
      fun h => (h.clearLine hf).1.setFailures (Nat.zero_le 16)
    dsimp only
    split
    · next down => exact ⟨fun h => (sent h).linkUp, fun off => absurd (down.symm.trans off) (by decide)⟩
    · exact .of_link sent rfl

theorem execTransmitFailure_linkWorks (s : State) : LinkWorks s (execTransmitFailure s) := by
  refine linkWorks_unlessHeld ?_
  split
  · exact .refl _
  · next f hf =>
    obtain ⟨link, -⟩ := s.rlc.failed_frame f
    dsimp only
    split
    · next sixteenth =>
      refine ⟨fun h => (h.failed hf).linkDown (s.rlc.failed_onLine f) _, fun off => ?_⟩
      exact absurd (sixteenth.1.symm.trans (link.trans off)) (by decide)
    · exact .of_link (fun h => h.failed hf) link

theorem execRetryTimerExpiry_linkWorks (s : State) : LinkWorks s (execRetryTimerExpiry s) := by
  refine linkWorks_unlessHeld ?_
  split
  · exact .refl _
  · next n hr =>
    refine .of_link (fun h => (h.allowTry (by simp [hr])).setRetry ?_) s.rlc.allowTry_frame.1
    rw [s.rlc.allowTry_retry, hr]
    rfl

theorem State.handFrame_worksTo (on : s.rlc.link ≠ .off) (station : Nat) (c : FrameContent) :
    s.rlc.WorksTo (s.handFrame station c).rlc := by
  unfold State.handFrame
  split
  · split
    · exact .refl _
    · exact ⟨Rlc.Stands.silence, fun off => absurd off on⟩
  · split
    · exact .refl _
    · exact .of_eq (State.learnSummary_rlc _ _ _ _)
    · split <;> exact .refl _

theorem execFrameReceived_linkWorks (f : LineFrame) (s : State) : LinkWorks s (execFrameReceived f s) := by
  have counted : s.rlc.WorksTo s.receiveError.rlc :=
    .of_link (fun h => { h with rxErrors := Nat.min_le_right _ _ }) rfl
  refine linkWorks_unlessHeld ?_
  split
  · exact .refl _
  · next on =>
    split
    · exact .refl _
    · split
      · exact counted
      · split
        · exact counted
        · exact State.handFrame_worksTo on _ _

theorem execTallyTimerExpiry_linkWorks (s : State) : LinkWorks s (execTallyTimerExpiry s) := by
  refine linkWorks_unlessHeld ?_
  split
  · exact .refl _
  · refine .trans ?_ (State.handTally_worksTo _)
    exact .of_eq (foldl_fixes (g := State.rlc) State.tallySlot_rlc allSlots _)

theorem execResetPinAssert_linkWorks (s : State) : LinkWorks s (execResetPinAssert s) := by
  rintro t ⟨⟩
  exact ⟨fun _ => Rlc.reset_stands, fun _ => rfl⟩

/-! ### Curtailment -/

@[simp] theorem State.startSettle_rlc (s : State) (k : SlotIx) : (s.startSettle k).rlc = s.rlc := rfl

@[simp] theorem State.setHold_rlc (s : State) (k : SlotIx) (n : Nat) : (s.setHold k n).rlc = s.rlc := rfl

@[simp] theorem State.uncurtailable_rlc (s : State) (k : SlotIx) (stamp : Nat) :
    (s.uncurtailable k stamp).rlc = s.rlc := by
  unfold State.uncurtailable
  split <;> rfl

theorem State.electShed_worksTo (s : State) (k : SlotIx) (stamp : Nat) (o : OutletIx) (rank draw : Nat) :
    s.rlc.WorksTo (s.electShed k stamp o rank draw).rlc := by
  unfold State.electShed
  dsimp only
  rw [State.chooseAt_rlc, State.startSettle_rlc, State.raiseAt_rlc]
  refine .trans (.of_eq ?_) (State.sendNote_worksTo _ _ _ _ _)
  simp

theorem State.electRestore_worksTo (s : State) (k : SlotIx) (stamp : Nat) (o : OutletIx) (rank draw : Nat) :
    s.rlc.WorksTo (s.electRestore k stamp o rank draw).rlc := by
  unfold State.electRestore
  dsimp only
  rw [State.chooseAt_rlc, State.setHold_rlc, State.startSettle_rlc, State.raiseAt_rlc]
  refine .trans (.of_eq ?_) (State.sendNote_worksTo _ _ _ _ _)
  simp

theorem State.shedElection_worksTo (s : State) (k : SlotIx) (stamp : Nat) :
    s.rlc.WorksTo (s.shedElection k stamp).rlc := by
  unfold State.shedElection
  split
  · exact .of_eq (s.uncurtailable_rlc k stamp)
  · split
    · exact .refl _
    · split
      · exact s.electShed_worksTo _ _ _ _ _
      all_goals exact .refl _

theorem State.restoreElection_worksTo (s : State) (k : SlotIx) (stamp : Nat) (c : RowCandidate) :
    s.rlc.WorksTo (s.restoreElection k stamp c).rlc := by
  unfold State.restoreElection
  split
  · exact .refl _
  · split
    · exact s.electRestore_worksTo _ _ _ _ _
    all_goals exact .refl _

theorem State.restoreTest_worksTo (s : State) (k : SlotIx) (stamp : Nat) :
    s.rlc.WorksTo (s.restoreTest k stamp).rlc := by
  unfold State.restoreTest
  split
  · exact .refl _
  · split
    · dsimp only
      split
      · exact State.restoreElection_worksTo (s.setHold k _) k stamp _
      · exact .refl _
    · exact .refl _

theorem State.curtailSlot_worksTo (stamp : Nat) (s : State) (k : SlotIx) :
    s.rlc.WorksTo (s.curtailSlot stamp k).rlc := by
  unfold State.curtailSlot
  split
  · exact .refl _
  · split
    · exact .refl _
    · dsimp only
      split
      · exact .refl _
      · split
        · exact State.shedElection_worksTo (s.setCurSlot k _) k stamp
        · exact State.restoreTest_worksTo (s.setCurSlot k _) k stamp
        all_goals exact .refl _

theorem execCurTallyCompletion_linkWorks (pins : Contacts) (s : State) :
    LinkWorks s (execCurTallyCompletion pins s) := by
  refine linkWorks_unlessHeld ?_
  dsimp only
  split
  · exact .refl _
  · next n rest _ =>
    exact foldl_keeps (P := fun u : State => s.rlc.WorksTo u.rlc)
      (fun u k h => h.trans (u.curtailSlot_worksTo n k)) allSlots _
      (.refl _)

/-! ### Commands that leave the link -/

theorem linkWorks_leaves {f : State → State} (h : (f s).rlc = s.rlc) : LinkWorks s (unlessHeld s f) :=
  linkWorks_unlessHeld (.of_eq h)

theorem linkWorks_portCommand {code : Byte} {len : Nat} {rec : Record} {work : State → State}
    (h : ∀ u, (work u).rlc = u.rlc) : LinkWorks s (portCommand code len rec s work) := by
  refine linkWorks_leaves ?_
  dsimp only
  split
  · exact h _
  · rfl

theorem linkWorks_outletCommand {code : Byte} {rec : Record} {pins : Contacts} {work : State → OutletIx → State}
    (h : ∀ u o, (work u o).rlc = u.rlc) :
    LinkWorks s (portCommand code 1 rec s fun u => (u.withPins pins).outletCommand code (paramByte rec 0) work) :=
  linkWorks_portCommand fun u => (u.withPins pins).outletCommand_rlc code _ h

theorem linkWorks_load {α : Type} {code : Byte} {len : Nat} {rec : Record} {params : Option α}
    {write : State → α → State} (h : ∀ u p, (write u p).rlc = u.rlc) :
    LinkWorks s (portCommand code len rec s fun u => u.load code params write) :=
  linkWorks_portCommand fun u => u.load_rlc code params h

theorem execNoCommandTransaction_linkWorks (bytes : List Byte) (s : State) :
    LinkWorks s (execNoCommandTransaction bytes s) :=
  linkWorks_leaves rfl

theorem execCutShortRecord_linkWorks (code : Byte) (len : Byte) (given : List Byte) (s : State) :
    LinkWorks s (execCutShortRecord code len given s) :=
  linkWorks_leaves rfl

theorem execUnknownCommandCode_linkWorks (code : Byte) (r : Record) (s : State) :
    LinkWorks s (execUnknownCommandCode code r s) :=
  linkWorks_leaves rfl

theorem execReadStatus_linkWorks (r : Record) (s : State) : LinkWorks s (execReadStatus r s) :=
  linkWorks_portCommand fun _ => rfl

theorem execReadTenant_linkWorks (r : Record) (s : State) : LinkWorks s (execReadTenant r s) :=
  linkWorks_portCommand fun _ => by split <;> rfl

theorem execReadOutlet_linkWorks (r : Record) (s : State) : LinkWorks s (execReadOutlet r s) :=
  linkWorks_portCommand fun _ => by split <;> rfl

theorem execReadBranch_linkWorks (r : Record) (s : State) : LinkWorks s (execReadBranch r s) :=
  linkWorks_portCommand fun _ => by split <;> rfl

theorem execReadContribution_linkWorks (r : Record) (s : State) : LinkWorks s (execReadContribution r s) :=
  linkWorks_portCommand fun _ => rfl

theorem execSetCursor_linkWorks (r : Record) (s : State) : LinkWorks s (execSetCursor r s) :=
  linkWorks_portCommand fun _ => by split <;> rfl

theorem execReadNotices_linkWorks (r : Record) (s : State) : LinkWorks s (execReadNotices r s) :=
  linkWorks_portCommand fun _ => by dsimp only; split <;> rfl

theorem execLoadStation_linkWorks (r : Record) (s : State) : LinkWorks s (execLoadStation r s) :=
  linkWorks_load fun _ _ => rfl

theorem execLoadTenant_linkWorks (r : Record) (s : State) : LinkWorks s (execLoadTenant r s) :=
  linkWorks_load fun _ _ => rfl

theorem execLoadCalibration_linkWorks (r : Record) (s : State) : LinkWorks s (execLoadCalibration r s) :=
  linkWorks_load fun _ _ => rfl

theorem execLoadBranch_linkWorks (r : Record) (s : State) : LinkWorks s (execLoadBranch r s) :=
  linkWorks_load fun _ _ => rfl

theorem execLoadFixed_linkWorks (r : Record) (s : State) : LinkWorks s (execLoadFixed r s) :=
  linkWorks_load fun _ _ => rfl

theorem execOutletOpen_linkWorks (r : Record) (pins : Contacts) (s : State) : LinkWorks s (execOutletOpen r pins s) :=
  linkWorks_outletCommand fun u o => by
    split
    · rfl
    · exact u.openByStanding_rlc o

theorem execOutletClose_linkWorks (r : Record) (pins : Contacts) (s : State) :
    LinkWorks s (execOutletClose r pins s) :=
  linkWorks_outletCommand fun u o => by
    split
    · rfl
    · exact u.closeManual_rlc o

theorem execRearm_linkWorks (r : Record) (pins : Contacts) (s : State) : LinkWorks s (execRearm r pins s) :=
  linkWorks_outletCommand fun u o => by
    split
    · rfl
    · exact u.rearmFaulted_rlc o

theorem execSetBand_linkWorks (r : Record) (s : State) : LinkWorks s (execSetBand r s) :=
  linkWorks_portCommand fun _ => by
    split
    · rfl
    · split <;> rfl

theorem execClearCounters_linkWorks (r : Record) (s : State) : LinkWorks s (execClearCounters r s) :=
  linkWorks_portCommand fun u => by
    split
    · rfl
    · split
      · exact u.clear_rlc _
      · rfl

theorem execSweepTimerExpiry_linkWorks (s : State) : LinkWorks s (execSweepTimerExpiry s) := by
  refine linkWorks_leaves ?_
  split
  · rfl
  · split
    · exact s.startSweep_rlc
    all_goals rfl

theorem execTempReadEnd_linkWorks (result : TempResult) (s : State) : LinkWorks s (execTempReadEnd result s) := by
  refine linkWorks_leaves ?_
  split
  · split
    · exact s.sensorFailed_rlc
    · split
      · rfl
      · exact s.sensorFailed_rlc
  all_goals rfl

theorem execTempReadTimeout_linkWorks (s : State) : LinkWorks s (execTempReadTimeout s) := by
  refine linkWorks_leaves ?_
  split
  · exact s.sensorFailed_rlc
  all_goals rfl

theorem execReadingReply_linkWorks (reply : FrontEndReply) (s : State) : LinkWorks s (execReadingReply reply s) := by
  refine linkWorks_leaves ?_
  split
  · exact s.visit_rlc _
  all_goals rfl

theorem execReadingTimeout_linkWorks (s : State) : LinkWorks s (execReadingTimeout s) := by
  refine linkWorks_leaves ?_
  split
  · exact s.visit_rlc _
  all_goals rfl

theorem execLateReply_linkWorks (reply : FrontEndReply) (s : State) : LinkWorks s (execLateReply reply s) := by
  rintro t ⟨⟩
  exact .refl _

theorem execSettleCountdownEnd_linkWorks (o : OutletIx) (s : State) : LinkWorks s (execSettleCountdownEnd o s) :=
  linkWorks_leaves (by split <;> rfl)

theorem execEctTallyCompletion_linkWorks (s : State) : LinkWorks s (execEctTallyCompletion s) := by
  refine linkWorks_leaves ?_
  split
  · rfl
  · next n rest _ =>
    exact (foldl_fixes (g := State.rlc) (State.accountSlot_rlc n) allSlots _).trans
      (foldl_fixes (g := State.rlc) (State.addOutletEnergy_rlc n) allOutlets _)

theorem execBrmSweepCompletion_linkWorks (pins : Contacts) (s : State) :
    LinkWorks s (execBrmSweepCompletion pins s) := by
  refine linkWorks_leaves ?_
  dsimp only
  split
  · rfl
  · exact foldl_fixes (g := State.rlc) State.stepBranch_rlc allBranches _

theorem execMismatchCheck_linkWorks (pins : Contacts) (s : State) : LinkWorks s (execMismatchCheck pins s) := by
  refine linkWorks_leaves ?_
  dsimp only
  split
  · rfl
  · exact foldl_fixes (g := State.rlc) State.checkOutlet_rlc allOutlets _

theorem execAgingTimerExpiry_linkWorks (s : State) : LinkWorks s (execAgingTimerExpiry s) := by
  refine linkWorks_leaves ?_
  split
  · rfl
  · exact foldl_fixes (g := State.rlc) State.ageEntry_rlc allPlaces _

theorem execPendingAdjustmentExpiry_linkWorks (i : PlaceIx) (s : State) :
    LinkWorks s (execPendingAdjustmentExpiry i s) :=
  linkWorks_leaves (by split <;> rfl)

theorem execSettleTimerExpiry_linkWorks (k : SlotIx) (s : State) : LinkWorks s (execSettleTimerExpiry k s) :=
  linkWorks_leaves rfl

theorem execStaggerTimerExpiry_linkWorks (pins : Contacts) (s : State) :
    LinkWorks s (execStaggerTimerExpiry pins s) := by
  refine linkWorks_leaves ?_
  dsimp only
  split
  · exact State.choose_rlc _
  · rfl

theorem execFeedbackTargetSensed_linkWorks (pins : Contacts) (s : State) :
    LinkWorks s (execFeedbackTargetSensed pins s) := by
  refine linkWorks_leaves ?_
  split
  · rfl
  · dsimp only
    split
    · rfl
    · simp

theorem execCoilPulseEnd_linkWorks (pins : Contacts) (s : State) : LinkWorks s (execCoilPulseEnd pins s) := by
  refine linkWorks_leaves ?_
  dsimp only
  split
  · rfl
  · split
    · rfl
    · split
      · simp
      · rfl

theorem execFeedbackWindowTimeout_linkWorks (pins : Contacts) (s : State) :
    LinkWorks s (execFeedbackWindowTimeout pins s) := by
  refine linkWorks_leaves ?_
  dsimp only
  split
  · rfl
  · split
    · split
      · rfl
      · simp
    · simp

theorem execPulseEndAdoption_linkWorks (o : OutletIx) (pins : Contacts) (s : State) :
    LinkWorks s (execPulseEndAdoption o pins s) := by
  refine linkWorks_leaves ?_
  dsimp only
  split <;> rfl

theorem execCtbNote_linkWorks (s : State) : LinkWorks s (execCtbNote s) := by
  refine linkWorks_leaves ?_
  split
  · rfl
  · exact State.applyNote_rlc _ _

theorem execCurNote_linkWorks (s : State) : LinkWorks s (execCurNote s) := by
  refine linkWorks_leaves ?_
  split
  · rfl
  · dsimp only
    split <;> rfl

/-! ### Every command within a phase -/

/-- Each command within a phase works on the link by its rules or leaves it. -/
theorem exec_linkWorks (c : Instr) (hc : ¬ Instr.ChangesPhaseOrRank c) : LinkWorks s (exec c s) := by
  cases c with
  | powerOn => exact absurd trivial hc
  | resetPinAssert => exact execResetPinAssert_linkWorks s
  | resetPinRelease => exact absurd trivial hc
  | noCommandTransaction bytes => exact execNoCommandTransaction_linkWorks bytes s
  | cutShortRecord code len given => exact execCutShortRecord_linkWorks code len given s
  | unknownCommandCode code r => exact execUnknownCommandCode_linkWorks code r s
  | readStatus r => exact execReadStatus_linkWorks r s
  | readTenant r => exact execReadTenant_linkWorks r s
  | readOutlet r => exact execReadOutlet_linkWorks r s
  | readBranch r => exact execReadBranch_linkWorks r s
  | readContribution r => exact execReadContribution_linkWorks r s
  | setCursor r => exact execSetCursor_linkWorks r s
  | readNotices r => exact execReadNotices_linkWorks r s
  | loadStation r => exact execLoadStation_linkWorks r s
  | loadTenant r => exact execLoadTenant_linkWorks r s
  | loadOutlet r => exact absurd trivial hc
  | loadCalibration r => exact execLoadCalibration_linkWorks r s
  | loadBranch r => exact execLoadBranch_linkWorks r s
  | loadFixed r => exact execLoadFixed_linkWorks r s
  | start r pins => exact absurd trivial hc
  | restart r => exact absurd trivial hc
  | outletOpen r pins => exact execOutletOpen_linkWorks r pins s
  | outletClose r pins => exact execOutletClose_linkWorks r pins s
  | rearm r pins => exact execRearm_linkWorks r pins s
  | setBand r => exact execSetBand_linkWorks r s
  | clearCounters r => exact execClearCounters_linkWorks r s
  | sweepTimerExpiry => exact execSweepTimerExpiry_linkWorks s
  | tempReadEnd result => exact execTempReadEnd_linkWorks result s
  | tempReadTimeout => exact execTempReadTimeout_linkWorks s
  | readingReply reply => exact execReadingReply_linkWorks reply s
  | readingTimeout => exact execReadingTimeout_linkWorks s
  | lateReply reply => exact execLateReply_linkWorks reply s
  | settleCountdownEnd o => exact execSettleCountdownEnd_linkWorks o s
  | enterRun => exact absurd trivial hc
  | tallyTimerExpiry => exact execTallyTimerExpiry_linkWorks s
  | ectTallyCompletion => exact execEctTallyCompletion_linkWorks s
  | curTallyCompletion pins => exact execCurTallyCompletion_linkWorks pins s
  | rlcTallyCompletion => exact execRlcTallyCompletion_linkWorks s
  | brmSweepCompletion pins => exact execBrmSweepCompletion_linkWorks pins s
  | mismatchCheck pins => exact execMismatchCheck_linkWorks pins s
  | agingTimerExpiry => exact execAgingTimerExpiry_linkWorks s
  | pendingAdjustmentExpiry i => exact execPendingAdjustmentExpiry_linkWorks i s
  | settleTimerExpiry k => exact execSettleTimerExpiry_linkWorks k s
  | retryTimerExpiry => exact execRetryTimerExpiry_linkWorks s
  | staggerTimerExpiry pins => exact execStaggerTimerExpiry_linkWorks pins s
  | feedbackTargetSensed pins => exact execFeedbackTargetSensed_linkWorks pins s
  | coilPulseEnd pins => exact execCoilPulseEnd_linkWorks pins s
  | feedbackWindowTimeout pins => exact execFeedbackWindowTimeout_linkWorks pins s
  | pulseEndAdoption o pins => exact execPulseEndAdoption_linkWorks o pins s
  | contendOnIdleLine => exact execContendOnIdleLine_linkWorks s
  | arbitrationLost => exact execArbitrationLost_linkWorks s
  | transmitSuccess => exact execTransmitSuccess_linkWorks s
  | transmitFailure => exact execTransmitFailure_linkWorks s
  | frameReceived frame => exact execFrameReceived_linkWorks frame s
  | ctbNote => exact execCtbNote_linkWorks s
  | curNote => exact execCurNote_linkWorks s

/-! ### Changes of phase -/

theorem State.poweredOn_linkHolds (s : State) (held : Bool) : LinkHolds (s.poweredOn held) :=
  (linkHolds_iff _).mpr ⟨fun _ => rfl, Rlc.reset_stands⟩

theorem State.restarted_linkHolds (s : State) : LinkHolds s.restarted := by
  have reset : s.restarted.rlc = Rlc.reset := State.leavePulse_rlc _ _
  exact (linkHolds_iff _).mpr ⟨fun _ => reset ▸ rfl, reset ▸ Rlc.reset_stands⟩

theorem linkHolds_portCommand {code : Byte} {len : Nat} {rec : Record} {work : State → State} (p : LinkHolds s)
    (h : ∀ u, LinkHolds u → LinkHolds (work u)) (ht : portCommand code len rec s work = .next t) : LinkHolds t := by
  cases ht
  split
  · exact p
  · dsimp only
    split
    · exact h _ p
    · exact p

theorem linkHolds_reply (h : LinkHolds s) (code : Byte) (st : Status) (d : List Byte) :
    LinkHolds (s.reply code st d) := h

/-- The entry into WARMUP takes the link from OFF, its queue empty, to LISTEN with the ANNOUNCE queued (R67, R77). -/
theorem State.enterWarmup_linkHolds (h : LinkHolds s) (config : s.mpt.phase = .config) : LinkHolds s.enterWarmup := by
  obtain ⟨off, stands⟩ := (linkHolds_iff s).mp h
  obtain ⟨v, -, entered⟩ := s.enterWarmup_eq
  have empty : s.rlc.queued = 0 := stands.stillEmpty (.inl (off config))
  have listening := stands.moveLink (by rw [off config]; decide) (.inl rfl)
  rw [entered]
  refine (linkHolds_iff _).mpr ⟨nofun, ?_⟩
  exact listening.addOther ⟨nofun, nofun⟩ (empty.trans_lt (by decide)) rfl (Nat.zero_le 3)
    (fun _ hi => by cases hi) (List.perm_append_singleton _ _)

theorem execStart_linkHolds (p : LinkHolds s) (rec : Record) (pins : Contacts) (h : execStart rec pins s = .next t) :
    LinkHolds t := by
  refine linkHolds_portCommand p (fun u pu => ?_) h
  split
  · exact pu
  · next config =>
    split
    · exact pu
    · have presented : LinkHolds (u.withPins pins) := pu
      exact linkHolds_reply (State.enterWarmup_linkHolds presented (not_not.mp config)) _ _ _

theorem execEnterRun_linkHolds (p : LinkHolds s) (h : execEnterRun s = .next t) : LinkHolds t := by
  cases h
  split
  · exact p
  · dsimp only
    split
    · have stands := ((linkHolds_iff s).mp p).2
      have entered := foldl_fixes (g := fun u : State => (u.mpt, u.rlc)) (f := State.enterSlot)
        (fun u k => by
          unfold State.enterSlot State.storeSlot
          split
          · dsimp only
            split <;> rfl
          · rfl) allSlots { s with mpt := { s.mpt with phase := .run } }
      generalize allSlots.foldl State.enterSlot _ = v at entered ⊢
      obtain ⟨hm, hr⟩ := Prod.mk.inj entered
      have run : v.mpt.phase = .run := congrArg Mpt.phase hm
      refine (linkHolds_iff _).mpr ⟨fun hc => absurd (run.symm.trans hc) (by decide), ?_⟩
      have stands : v.rlc.Stands := hr ▸ stands
      dsimp only
      split
      · next listening => exact stands.moveLink (by rw [listening]; decide) (.inr rfl)
      · exact stands
    · exact p

theorem execLoadOutlet_linkHolds (p : LinkHolds s) (rec : Record) (h : execLoadOutlet rec s = .next t) :
    LinkHolds t := by
  refine linkHolds_portCommand p (fun u pu => ?_) h
  rcases u.load_cases 18 (outletParams rec) _ with ⟨-, e⟩ | ⟨-, -, e⟩ | ⟨q, -, -, e⟩ <;> rw [e] <;> exact pu

/-! ### Every step -/

theorem exec_linkHolds (c : Instr) (p : LinkHolds s) (h : exec c s = .next t) : LinkHolds t := by
  by_cases hc : Instr.ChangesPhaseOrRank c
  · unfold Instr.ChangesPhaseOrRank at hc
    split at hc
    · cases h
      exact s.poweredOn_linkHolds _
    · cases h
      exact s.poweredOn_linkHolds _
    · exact execStart_linkHolds p _ _ h
    · exact linkHolds_portCommand p (fun u _ => u.restarted_linkHolds) h
    · exact execEnterRun_linkHolds p h
    · exact execLoadOutlet_linkHolds p _ h
    · exact hc.elim
  · exact linkHolds_of_works p (exec_answers c hc s t h).phase (exec_linkWorks c hc t h)

theorem State.idle_linkHolds (p : LinkHolds s) : LinkHolds s.idle := by
  refine linkHolds_of_works p (Works.idle s).phase ?_
  unfold State.idle
  split
  · exact .refl _
  · exact .of_link (fun h => h.setRetry (Option.isSome_map ..)) rfl

/-- Settles O58: work within a phase keeps the link's rules and leaves an OFF link OFF; a change of phase begins from a
reset link or from an OFF one, whose queue is empty. -/
theorem stepKeepsTransmitQueue : Obligations.StepKeepsTransmitQueue := by
  intro s t h p
  unfold step at h
  split at h
  · cases h
    exact State.idle_linkHolds p
  · next c rest _ =>
    have taken : LinkHolds { s with pending := rest } := p
    exact exec_linkHolds c taken h

end Sys2Proof.Machine
end

section
/-! The row link's commands by their results: a tally completion, transmission, and a frame received (R64 to R66, R68 to
R70, R75, R76, R78 to R80). -/

namespace Sys2Proof.Machine

open Sys2Proof.Claims

variable {s : State} {r : Rlc} {f : TxFrame} {rest : List TxFrame}

/-! ### Summaries -/

theorem State.summaryEntry_eq (s : State) (k : SlotIx) : s.summaryEntry k = summaryOf s k := by
  unfold State.summaryEntry summaryOf
  rw [State.localContribution_eq]
  rfl

theorem State.segmentFrame_eq (s : State) (i : Nat) (last : Bool) (slots : List SlotIx) :
    s.segmentFrame i last slots = .summary (s.tly.count % 256) i last (slots.map (summaryOf s)) := by
  rw [State.segmentFrame, List.map_congr_left fun k _ => s.summaryEntry_eq k]
  rfl

/-- With no slot in use there is no segment (R69). -/
theorem State.sendSummaries_none (h : s.usedSlots = []) : s.sendSummaries = s := by
  simp [State.sendSummaries, h]

theorem State.sendSummaries_one (some : 1 ≤ s.usedSlots.length) (few : s.usedSlots.length ≤ 8) :
    s.sendSummaries = { s with rlc := s.rlc.putSummary 0 (s.segmentFrame 0 true s.usedSlots) } := by
  have used : s.usedSlots ≠ [] := List.length_pos_iff.mp some
  simp [State.sendSummaries, used, List.drop_eq_nil_of_le few, List.take_of_length_le few]

theorem State.sendSummaries_two (many : 8 < s.usedSlots.length) :
    s.sendSummaries =
      { s with rlc :=
          ((s.rlc.putSummary 0 (s.segmentFrame 0 false (s.usedSlots.take 8))).putSummary 1
            (s.segmentFrame 1 true (s.usedSlots.drop 8))) } := by
  have used : s.usedSlots ≠ [] := List.length_pos_iff.mp (Nat.zero_lt_of_lt many)
  have more : (s.usedSlots.drop 8).isEmpty = false := by simpa using many
  simp [State.sendSummaries, used, more]

theorem exec_rlcTallyCompletion_empty (held : s.resetHeld = false) (h : s.rlc.tallies = []) :
    exec .rlcTallyCompletion s = .next s := by
  rw [exec, execRlcTallyCompletion, unlessHeld_free held, h]

theorem exec_rlcTallyCompletion {n : Nat} {rest : List Nat} (held : s.resetHeld = false)
    (h : s.rlc.tallies = n :: rest) :
    exec .rlcTallyCompletion s = .next
      (if n % s.station.exchange = 0 ∧ s.rlc.accepts then
        { s with rlc := { s.rlc with tallies := rest } }.sendSummaries
      else { s with rlc := { s.rlc with tallies := rest } }) := by
  rw [exec, execRlcTallyCompletion, unlessHeld_free held, h]
  rfl

/-- Settles O42: the completion is taken; a due one with slots in use builds one segment or two. -/
theorem summariesFollowTallies : Obligations.SummariesFollowTallies := by
  intro s held
  refine ⟨exec_rlcTallyCompletion_empty held, ?_⟩
  intro n rest h popped used due segment
  have taken := exec_rlcTallyCompletion held h
  have built (i : Nat) (last : Bool) (slots : List SlotIx) :
      ({ s with rlc := popped } : State).segmentFrame i last slots = segment i last slots :=
    State.segmentFrame_eq { s with rlc := popped } i last slots
  refine ⟨fun idle => ?_, fun isDue some few => ?_, fun isDue many => ?_⟩
  · rw [taken]
    split
    · next isDue =>
      have free : used = [] := idle.resolve_left (not_not.mpr ⟨isDue.1, Rlc.accepts_iff.mp isDue.2⟩)
      rw [State.sendSummaries_none (s := { s with rlc := popped }) free]
    · rfl
  · rw [taken, if_pos ⟨isDue.1, Rlc.accepts_iff.mpr isDue.2⟩,
      State.sendSummaries_one (s := { s with rlc := popped }) some few, built]
    rfl
  · rw [taken, if_pos ⟨isDue.1, Rlc.accepts_iff.mpr isDue.2⟩,
      State.sendSummaries_two (s := { s with rlc := popped }) many, built, built]
    rfl

/-! ### Contending -/

theorem Rlc.mayContend_iff :
    r.mayContend = true ↔ r.link = .listen ∨ r.link = .active ∨ r.link = .down ∧ r.tryOn = true := by
  unfold Rlc.mayContend
  cases r.link <;> simp

theorem Rlc.takeHead_empty (hn : r.noteRun = []) (ho : r.otherRun = []) : r.takeHead = r := by
  rcases r.takeHead_cases with ⟨-, -, e⟩ | ⟨f, rest, h, -, -⟩ | ⟨f, rest, h, -, -⟩
  · exact e
  · simp [hn] at h
  · simp [ho] at h

theorem Rlc.takeHead_note (hn : r.noteRun = f :: rest) (turn : r.tryOther = false ∨ r.otherRun = []) :
    r.takeHead = { r with noteRun := rest, onLine := some f, tryOther := false } := by
  rcases r.takeHead_cases with ⟨h, -, -⟩ | ⟨g, l, h, -, e⟩ | ⟨g, l, h, other, -⟩
  · simp [hn] at h
  · obtain ⟨rfl, rfl⟩ := List.cons.inj (hn.symm.trans h)
    exact e
  · have off : r.tryOther = false := turn.resolve_right (by simp [h])
    exact absurd (other.resolve_right (by simp [hn])) (by simp [off])

theorem Rlc.takeHead_other (ho : r.otherRun = f :: rest) (turn : r.tryOther = true ∨ r.noteRun = []) :
    r.takeHead = { r with otherRun := rest, onLine := some f, tryOther := false } := by
  rcases r.takeHead_cases with ⟨-, h, -⟩ | ⟨g, l, h, note, -⟩ | ⟨g, l, h, -, e⟩
  · simp [ho] at h
  · have on : r.tryOther = true := turn.resolve_right (by simp [h])
    exact absurd (note.resolve_right (by simp [ho])) (by simp [on])
  · obtain ⟨rfl, rfl⟩ := List.cons.inj (ho.symm.trans h)
    exact e

theorem exec_contendOnIdleLine (held : s.resetHeld = false) :
    exec .contendOnIdleLine s = .next
      (if s.rlc.onLine.isNone ∧ s.rlc.mayContend then { s with rlc := s.rlc.takeHead } else s) := by
  rw [exec, execContendOnIdleLine, unlessHeld_free held]

/-! ### The ends of a transmission -/

theorem exec_arbitrationLost (held : s.resetHeld = false) (hf : s.rlc.onLine = some f) :
    exec .arbitrationLost s = .next { s with rlc := { s.rlc with onLine := none }.putBack f } := by
  rw [exec, execArbitrationLost, unlessHeld_free held, hf]

theorem exec_transmitSuccess (held : s.resetHeld = false) (hf : s.rlc.onLine = some f) (up : s.rlc.link ≠ .down) :
    exec .transmitSuccess s = .next { s with rlc := { s.rlc with onLine := none, failures := 0 } } := by
  rw [exec, execTransmitSuccess, unlessHeld_free held, hf]
  exact congrArg _ (if_neg up)

theorem exec_transmitSuccess_down (held : s.resetHeld = false) (hf : s.rlc.onLine = some f)
    (down : s.rlc.link = .down) :
    exec .transmitSuccess s = .next { s with
      rlc := { s.rlc with
        onLine := none, failures := 0, link := .active, retry := none, tryOn := false, tryOther := false }
      nq := raised s [.linkUp] } := by
  rw [exec, execTransmitSuccess, unlessHeld_free held, hf]
  exact congrArg _ ((if_pos down).trans (State.raise_eq _ _))

/-- The queue after a failed attempt (R66): the frame returns with its count, unless that was its fourth. -/
theorem Rlc.failed_eq (r : Rlc) (f : TxFrame) : r.failed f =
    if f.attempts < 3 then
      ({ r with
        onLine := none, tryOn := false, tryOther := false, failures := min (r.failures + 1) 16 } : Rlc).putBack
          ⟨f.content, f.attempts + 1⟩
    else { r with onLine := none, tryOn := false, tryOther := false, failures := min (r.failures + 1) 16 } := by
  by_cases h : f.attempts < 3
  · rw [if_pos h]
    exact if_pos (Nat.succ_lt_succ h)
  · rw [if_neg h]
    exact if_neg (mt Nat.lt_of_succ_lt_succ h)

theorem Rlc.putBack_failures (r : Rlc) (f : TxFrame) : (r.putBack f).failures = r.failures := by
  unfold Rlc.putBack
  split
  · rfl
  · split <;> rfl
  · rfl

theorem Rlc.failed_failures (r : Rlc) (f : TxFrame) : (r.failed f).failures = min (r.failures + 1) 16 := by
  rw [Rlc.failed_eq]
  split
  · exact Rlc.putBack_failures _ _
  · rfl

theorem exec_transmitFailure (held : s.resetHeld = false) (hf : s.rlc.onLine = some f)
    (h : s.rlc.link ≠ .active ∨ min (s.rlc.failures + 1) 16 < 16) :
    exec .transmitFailure s = .next { s with rlc := s.rlc.failed f } := by
  have stays : ¬ ((s.rlc.failed f).link = .active ∧ (s.rlc.failed f).failures = 16) := by
    rw [(s.rlc.failed_frame f).1, s.rlc.failed_failures]
    exact fun e => h.elim (· e.1) fun lt => absurd e.2 lt.ne
  rw [exec, execTransmitFailure, unlessHeld_free held, hf]
  exact congrArg _ (if_neg stays)

theorem exec_transmitFailure_sixteenth (held : s.resetHeld = false) (hf : s.rlc.onLine = some f)
    (active : s.rlc.link = .active) (count : min (s.rlc.failures + 1) 16 = 16) :
    exec .transmitFailure s = .next { s with
      rlc := { s.rlc.failed f with link := .down, retry := some 1250000 }
      nq := raised s [.linkDown] } := by
  have sixteenth : (s.rlc.failed f).link = .active ∧ (s.rlc.failed f).failures = 16 := by
    rw [(s.rlc.failed_frame f).1, s.rlc.failed_failures]
    exact ⟨active, count⟩
  rw [exec, execTransmitFailure, unlessHeld_free held, hf]
  exact congrArg _ ((if_pos sixteenth).trans (State.raise_eq _ _))

/-! ### The retry timer -/

theorem Rlc.queued_pos_iff : 0 < r.queued ↔ r.onLine ≠ none ∨ r.noteRun ≠ [] ∨ r.otherRun ≠ [] := by
  simp only [Rlc.queued, ← List.length_pos_iff, ← Option.isSome_iff_ne_none]
  cases r.onLine <;> simp

theorem Rlc.allowTry_under (h : r.tryOn = true) : r.allowTry = r := if_pos h

theorem Rlc.allowTry_idle (h : r.tryOn = false) : r.allowTry = { r with
    tryOn := decide (r.onLine ≠ none ∨ r.noteRun ≠ [] ∨ r.otherRun ≠ [])
    tryOther := decide (r.onLine = none ∧ r.noteRun = [] ∧ r.otherRun ≠ []) } := by
  have other : (r.onLine.isNone && r.noteRun.isEmpty && !r.otherRun.isEmpty) =
      decide (r.onLine = none ∧ r.noteRun = [] ∧ r.otherRun ≠ []) := by
    rw [Bool.eq_iff_iff]
    simp [and_assoc]
  rw [Rlc.allowTry, if_neg (by simp [h]), decide_eq_decide.mpr Rlc.queued_pos_iff, other]

theorem exec_retryTimerExpiry (held : s.resetHeld = false) (running : s.rlc.retry ≠ none) :
    exec .retryTimerExpiry s = .next { s with rlc := { s.rlc.allowTry with retry := some 1250000 } } := by
  obtain ⟨n, hn⟩ := Option.ne_none_iff_exists'.mp running
  rw [exec, execRetryTimerExpiry, unlessHeld_free held, hn]
  rfl

theorem exec_transmission_offLine (held : s.resetHeld = false) (h : s.rlc.onLine = none) :
    exec .arbitrationLost s = .next s ∧ exec .transmitSuccess s = .next s ∧ exec .transmitFailure s = .next s := by
  refine ⟨?_, ?_, ?_⟩
  · rw [exec, execArbitrationLost, unlessHeld_free held, h]
  · rw [exec, execTransmitSuccess, unlessHeld_free held, h]
  · rw [exec, execTransmitFailure, unlessHeld_free held, h]

theorem exec_retryTimerExpiry_stopped (held : s.resetHeld = false) (h : s.rlc.retry = none) :
    exec .retryTimerExpiry s = .next s := by
  rw [exec, execRetryTimerExpiry, unlessHeld_free held, h]

/-- Settles O44: each command of transmission by what is on the line, what waits and the link's state. -/
theorem transmissionMovesTheQueue : Obligations.TransmissionMovesTheQueue := by
  intro s held free
  have contends : (s.rlc.onLine.isNone = true ∧ s.rlc.mayContend = true) ↔ free :=
    and_congr Option.isNone_iff_eq_none Rlc.mayContend_iff
  refine ⟨fun busy => ?_, fun isFree => ?_, exec_transmission_offLine held, fun f hf => ?_,
    exec_retryTimerExpiry_stopped held, fun running under => ?_, fun running idle => ?_⟩
  · rw [exec_contendOnIdleLine held, if_neg (mt contends.mp busy)]
  · rw [exec_contendOnIdleLine held, if_pos (contends.mpr isFree)]
    exact ⟨fun hn ho => by rw [Rlc.takeHead_empty hn ho], fun f rest hn turn => by rw [Rlc.takeHead_note hn turn],
      fun f rest ho turn => by rw [Rlc.takeHead_other ho turn]⟩
  · refine ⟨exec_arbitrationLost held hf, exec_transmitSuccess held hf, exec_transmitSuccess_down held hf,
      fun active count => ?_, fun h => ?_⟩
    · rw [exec_transmitFailure_sixteenth held hf active count, Rlc.failed_eq]
    · rw [exec_transmitFailure held hf h, Rlc.failed_eq]
  · rw [exec_retryTimerExpiry held running, Rlc.allowTry_under under]
  · rw [exec_retryTimerExpiry held running, Rlc.allowTry_idle idle]

/-! ### A frame received -/

theorem State.slotOf_eq_none {id : Nat} (h : ∀ k, (s.tenant k).tenantId ≠ some id) : s.slotOf id = none := by
  simp [State.slotOf, h]

theorem State.slotOf_eq_some {id : Nat} {k : SlotIx} (h : (s.tenant k).tenantId = some id)
    (only : ∀ j, (s.tenant j).tenantId = some id → j = k) : s.slotOf id = some k := by
  cases hs : s.slotOf id with
  | none => simpa [h] using List.find?_eq_none.mp hs k (by simp [allSlots])
  | some j => rw [only j (by simpa using List.find?_some hs)]

theorem exec_frameReceived_unread {f : LineFrame} (held : s.resetHeld = false)
    (h : ¬ (s.rlc.link ≠ .off ∧ f.droveBeyondKey = false ∧ s.rlc.onLine = none)) :
    exec (.frameReceived f) s = .next s := by
  rw [exec, execFrameReceived, unlessHeld_free held]
  refine congrArg _ ?_
  split
  · rfl
  · next on => exact if_pos (by simpa [on, Option.isSome_iff_ne_none, imp_iff_not_or] using h)

/-- A frame that is read is dropped and counted with a bad stop bit or a failed check (R75). -/
theorem exec_frameReceived_dropped {f : LineFrame} (held : s.resetHeld = false)
    (h : s.rlc.link ≠ .off ∧ f.droveBeyondKey = false ∧ s.rlc.onLine = none)
    (bad : f.stopBitsGood = false ∨ parseFrame f.bytes = none) :
    exec (.frameReceived f) s = .next s.receiveError := by
  obtain ⟨on, key, idle⟩ := h
  rw [exec, execFrameReceived, unlessHeld_free held, if_neg on, if_neg (by simp [key, idle])]
  cases good : f.stopBitsGood with
  | false => rfl
  | true =>
    rw [bad.resolve_left (by simp [good])]
    rfl

/-- A frame that is read and passes every check is handed on (R76). -/
theorem exec_frameReceived_valid {f : LineFrame} {station : Nat} {c : FrameContent} (held : s.resetHeld = false)
    (h : s.rlc.link ≠ .off ∧ f.droveBeyondKey = false ∧ s.rlc.onLine = none) (good : f.stopBitsGood = true)
    (parsed : parseFrame f.bytes = some (station, c)) :
    exec (.frameReceived f) s = .next (s.handFrame station c) := by
  obtain ⟨on, key, idle⟩ := h
  rw [exec, execFrameReceived, unlessHeld_free held, if_neg on, if_neg (by simp [key, idle]), good, parsed]
  rfl

/-- A valid frame with the own ID silences a station that is not SILENT (R79, R80). -/
theorem State.handFrame_own (c : FrameContent) (idle : s.rlc.onLine = none) (h : s.rlc.link ≠ .silent) :
    s.handFrame s.station.id c = { s with
      rlc := { s.rlc with
        link := .silent, noteRun := [], otherRun := [], retry := none, tryOn := false, tryOther := false }
      nq := raised s [.duplicateStation] } := by
  have silenced : s.handFrame s.station.id c = s.goSilent := (if_pos rfl).trans (if_neg h)
  rw [silenced, State.goSilent, State.raise_eq, ← idle]
  rfl

theorem State.handFrame_silent (c : FrameContent) (h : s.rlc.link = .silent) : s.handFrame s.station.id c = s :=
  (if_pos rfl).trans (if_pos h)

theorem State.handFrame_note_unserved {station id : Nat} (other : station ≠ s.station.id) (d : NoteDirection)
    (rank draw stamp : Nat) (h : s.slotOf id = none) : s.handFrame station (.note id d rank draw stamp) = s := by
  rw [State.handFrame, if_neg other, h]

theorem State.handFrame_note_served {station id : Nat} {k : SlotIx} (other : station ≠ s.station.id)
    (d : NoteDirection) (rank draw stamp : Nat) (h : s.slotOf id = some k) :
    s.handFrame station (.note id d rank draw stamp) = s.handNote ⟨k, station, d, rank, draw, stamp⟩ := by
  rw [State.handFrame, if_neg other, h]

/-- Settles O45: a frame is not read, dropped and counted, or handed on by its sender and kind. -/
theorem frameReceptionByKind : Obligations.FrameReceptionByKind := by
  intro f s held read counted
  refine ⟨exec_frameReceived_unread held, fun h bad => ?_, fun h invalid => ?_,
    fun station c h good parsed => ⟨?_, fun other => ?_⟩⟩
  · exact exec_frameReceived_dropped held h (.inl bad)
  · exact exec_frameReceived_dropped held h (.inr invalid)
  · rintro rfl
    rw [exec_frameReceived_valid held h good parsed]
    exact ⟨fun silent => by rw [State.handFrame_silent c silent], fun on => by rw [State.handFrame_own c h.2.2 on]⟩
  · rw [exec_frameReceived_valid held h good parsed]
    refine ⟨?_, ?_, ?_⟩
    · rintro n rfl
      rw [State.handFrame, if_neg other]
    · rintro stamp i last entries rfl
      rw [State.handFrame, if_neg other]
      rfl
    · rintro id d rank draw stamp rfl
      refine ⟨fun none => ?_, fun k hk only => ?_⟩
      · rw [State.handFrame_note_unserved other d rank draw stamp (State.slotOf_eq_none none)]
      · rw [State.handFrame_note_served other d rank draw stamp (State.slotOf_eq_some hk only)]
        rfl

end Sys2Proof.Machine
end

section
/-! The bytes of a frame (R65, R177) and its CRC (R178), and that a frame is read back as it was built (R67, R68, R71,
R75). -/

namespace Sys2Proof.Machine

open Sys2Proof.Claims

variable {station : Nat} {c : FrameContent}

/-! ### The CRC register -/

theorem crcBit_toNat (reg : BitVec 16) (bit : Bool) : (crcBit reg bit).toNat = crcFrom reg.toNat [bit] := by
  have top : reg.msb = decide (32768 ≤ reg.toNat) := BitVec.msb_eq_decide reg
  have shifted : (reg <<< 1).toNat = reg.toNat * 2 % 65536 := by
    rw [BitVec.toNat_shiftLeft, Nat.shiftLeft_eq]
  simp only [crcBit, crcFrom, List.foldl_cons, List.foldl_nil, beq_iff_eq, ← top]
  split
  · exact shifted
  · rw [BitVec.toNat_xor, shifted]
    rfl

theorem crcFrom_append (reg : Nat) (bits more : List Bool) :
    crcFrom reg (bits ++ more) = crcFrom (crcFrom reg bits) more := List.foldl_append

/-- The register after these bits (R178). -/
theorem foldl_crcBit_toNat (reg : BitVec 16) (bits : List Bool) :
    (bits.foldl crcBit reg).toNat = crcFrom reg.toNat bits := by
  induction bits generalizing reg with
  | nil => rfl
  | cons bit bits ih => rw [List.foldl_cons, ih, crcBit_toNat, ← crcFrom_append, List.singleton_append]

theorem crcByte_eq (reg : BitVec 16) (b : Byte) : crcByte reg b = (bitsOf [b]).foldl crcBit reg := by
  simp [crcByte, bitsOf, BitVec.testBit_toNat]

theorem bitsOf_cons (b : Byte) (bytes : List Byte) : bitsOf (b :: bytes) = bitsOf [b] ++ bitsOf bytes := by
  simp [bitsOf]

theorem foldl_crcByte_eq (reg : BitVec 16) (bytes : List Byte) :
    bytes.foldl crcByte reg = (bitsOf bytes).foldl crcBit reg := by
  induction bytes generalizing reg with
  | nil => rfl
  | cons b bytes ih => rw [List.foldl_cons, ih, crcByte_eq, bitsOf_cons b bytes, List.foldl_append]

theorem crc_toNat (bytes : List Byte) : (crc bytes).toNat = crcFrom 0xFFFF (bitsOf bytes) := by
  rw [crc, foldl_crcByte_eq, foldl_crcBit_toNat]
  rfl

theorem withCrc_eq (body : List Byte) : withCrc body = body ++ crcBytes body := by
  simp [withCrc, crcBytes, crc_toNat, natBytes]

/-- A bit that equals the one that leaves the register only shifts it (R178). -/
theorem crcBit_msb (reg : BitVec 16) : crcBit reg reg.msb = reg <<< 1 := by simp [crcBit]

/-- A register fed with its own first bits is shifted by their number. -/
theorem foldl_crcBit_self (reg : BitVec 16) (n : Nat) :
    ((List.range n).map fun i => reg.getMsbD i).foldl crcBit reg = reg <<< n := by
  induction n with
  | zero => simp
  | succ n ih =>
    have first : reg.getMsbD n = (reg <<< n).msb := by simp [BitVec.msb]
    rw [List.range_succ, List.map_append, List.foldl_append, ih, List.map_singleton, List.foldl_cons, List.foldl_nil,
      first, crcBit_msb, BitVec.shiftLeft_add]

theorem bitsOf_natBytes (reg : BitVec 16) :
    bitsOf (natBytes 2 reg.toNat) = (List.range 16).map fun i => reg.getMsbD i := by
  have high (i : Nat) (h : i < 8) : (BitVec.ofNat 8 (reg.toNat / 256))[i] = reg[i + 8] := by
    rw [← BitVec.getLsbD_eq_getElem, ← BitVec.getLsbD_eq_getElem, BitVec.getLsbD_ofNat, decide_eq_true h,
      Bool.true_and, ← BitVec.testBit_toNat]
    exact Nat.testBit_div_two_pow (n := 8) reg.toNat i
  have range : List.range 16 = [0, 1, 2, 3, 4, 5, 6, 7, 8, 9, 10, 11, 12, 13, 14, 15] := rfl
  simp [bitsOf, natBytes, range, BitVec.getMsbD, high, BitVec.testBit_toNat]

/-- Fed with a whole frame the register ends at 0 (R178). -/
theorem crc_append_crcBytes (body : List Byte) : crc (body ++ crcBytes body) = 0 := by
  rw [crc, List.foldl_append, ← crc, crcBytes, foldl_crcByte_eq, bitsOf_natBytes, foldl_crcBit_self]
  exact BitVec.shiftLeft_eq_zero (le_refl 16)

/-! ### The bytes of a frame -/

theorem frameBytes_eq (station : Nat) (c : FrameContent) :
    frameBytes station c = withCrc (keyByte station c :: c.bytes) := (withCrc_eq _).symm

theorem TenantState.code_eq (t : TenantState) : t.code = BitVec.ofNat 8 (stateNumber t) := by cases t <;> rfl

theorem candidateBytes_eq_candidateAs (x : Option Candidate) : candidateBytes x = candidateAs x := by
  cases x <;> simp [candidateBytes, candidateAs, natBytes]

theorem entryBytes_eq_entryAs (e : SummaryEntry) : entryBytes e = entryAs e := by
  simp [entryBytes, entryAs, natBytes, candidateBytes_eq_candidateAs, TenantState.code_eq]

/-- Settles O47: the bytes by kind, and the register as a number after the same bits. -/
theorem framesHaveTheirBytes : Obligations.FramesHaveTheirBytes := by
  refine ⟨fun station slots => ?_, fun station id d rank draw stamp => ?_,
    fun station stamp segment last entries => ?_, fun body => ?_, by decide +kernel⟩
  · rw [frameBytes_eq]
    rfl
  · rw [frameBytes_eq]
    cases d <;> simp [keyByte, FrameContent.cls, FrameContent.bytes, natBytes, NoteDirection.code]
  · rw [frameBytes_eq, FrameContent.bytes, List.flatMap_congr fun e _ => entryBytes_eq_entryAs e]
    rfl
  · rw [withCrc_eq, ← crc_toNat, crc_append_crcBytes]
    rfl

end Sys2Proof.Machine
end

section
/-! A frame is read back as it was built, and only a frame so built is read (R67, R68, R71, R75). -/

namespace Sys2Proof.Machine

open Sys2Proof.Claims

variable {station : Nat} {c : FrameContent} {bytes : List Byte}

/-! ### Numbers side by side -/

/-- Numbers written side by side, each in its width of bytes. -/
def writeFields : List Nat → List Nat → List Byte
  | w :: ws, n :: ns => natBytes w n ++ writeFields ws ns
  | _, _ => []

/-- Numbers read side by side, each from its width of bytes. -/
def readFields : List Nat → List Byte → List Nat
  | [], _ => []
  | w :: ws, bytes => bytesNat (bytes.take w) :: readFields ws (bytes.drop w)

theorem readFields_writeFields {ws ns : List Nat} (h : List.Forall₂ (fun w n => n < 256 ^ w) ws ns) :
    readFields ws (writeFields ws ns) = ns := by
  induction h with
  | nil => rfl
  | cons fits _ ih =>
    rw [writeFields, readFields, List.take_left' (natBytes_length _ _), List.drop_left' (natBytes_length _ _), ih,
      bytesNat_natBytes, Nat.mod_eq_of_lt fits]

theorem writeFields_readFields {ws : List Nat} (h : bytes.length = ws.sum) :
    writeFields ws (readFields ws bytes) = bytes := by
  induction ws generalizing bytes with
  | nil => exact (List.eq_nil_of_length_eq_zero h).symm
  | cons w ws ih =>
    rw [List.sum_cons] at h
    have taken : (bytes.take w).length = w := by rw [List.length_take]; omega
    have rest : (bytes.drop w).length = ws.sum := by rw [List.length_drop]; omega
    have here := natBytes_bytesNat (bytes.take w)
    rw [taken] at here
    rw [readFields, writeFields, here, ih rest, List.take_append_drop]

/-! ### Tenant entries -/

theorem tenantStateOf_eq_some_iff {n : Nat} {t : TenantState} : tenantStateOf n = some t ↔ t.code.toNat = n := by
  constructor
  · intro h
    unfold tenantStateOf at h
    split at h <;> cases h <;> rfl
  · rintro rfl
    cases t <;> rfl

/-- A candidate's flag byte, as a number (R177). -/
def candidateFlags : Option Candidate → Nat
  | some c => 128 + c.rank
  | none => 0

/-- A candidate's draw as it is written (R177). -/
def candidateDraw : Option Candidate → Nat
  | some c => c.draw
  | none => 0

theorem candidateBytes_eq_writeFields (x : Option Candidate) :
    candidateBytes x = writeFields [1, 2] [candidateFlags x, candidateDraw x] := by
  cases x <;> simp [candidateBytes, candidateFlags, candidateDraw, writeFields, natBytes]

/-- A candidate is read exactly from its own flag byte and draw, within its range. -/
theorem parseCandidate_eq_some_iff {maxRank flags draw : Nat} {x : Option Candidate} (h : maxRank ≤ 15) :
    parseCandidate maxRank flags draw = some x ↔
      candidateFlags x = flags ∧ candidateDraw x = draw ∧ CandidateInRange maxRank x := by
  constructor
  · intro hx
    have range := parseCandidate_inRange hx
    unfold parseCandidate at hx
    split at hx
    · next absent =>
      cases hx
      exact ⟨absent.1.symm, absent.2.symm, range⟩
    · split at hx
      · next present =>
        cases hx
        exact ⟨Nat.add_sub_cancel' present.1, rfl, range⟩
      · cases hx
  · rintro ⟨rfl, rfl, range⟩
    cases x with
    | none => exact if_pos ⟨rfl, rfl⟩
    | some d =>
      obtain ⟨rank, fits⟩ := range d rfl
      have flagged : ¬ (128 + d.rank = 0 ∧ d.draw = 0) := by omega
      have present : 128 ≤ 128 + d.rank ∧ 128 + d.rank < 128 + 16 ∧ 128 + d.rank - 128 ≤ maxRank ∧
          d.draw ≤ Config.maxPower := ⟨by omega, by omega, by omega, fits⟩
      rw [parseCandidate, candidateFlags, candidateDraw, if_neg flagged, if_pos present, Nat.add_sub_cancel_left]

/-- The widths of a tenant entry's fields (R177). -/
def entryWidths : List Nat := [2, 3, 2, 1, 1, 2, 1, 2]

/-- A tenant entry's fields as they are written (R177). -/
def entryFields (e : SummaryEntry) : List Nat :=
  [e.tenantId, e.contribution, e.code, e.state.code.toNat, candidateFlags e.shed, candidateDraw e.shed,
    candidateFlags e.restore, candidateDraw e.restore]

theorem entryBytes_eq_writeFields (e : SummaryEntry) : entryBytes e = writeFields entryWidths (entryFields e) := by
  simp [entryBytes, entryWidths, entryFields, writeFields, candidateBytes_eq_writeFields, natBytes]

@[simp] theorem entryBytes_length (e : SummaryEntry) : (entryBytes e).length = 14 := by
  simp [entryBytes, candidateBytes_eq_writeFields, writeFields]

/-- A tenant entry is read exactly where its fields stand, each within its range. -/
theorem parseEntry_eq_some_iff {e : SummaryEntry} :
    parseEntry bytes = some e ↔ entryFields e = readFields entryWidths bytes ∧ EntryInRange e := by
  have read : readFields entryWidths bytes =
      [bytesNat ((bytes.drop 0).take 2), bytesNat ((bytes.drop 2).take 3), bytesNat ((bytes.drop 5).take 2),
        bytesNat ((bytes.drop 7).take 1), bytesNat ((bytes.drop 8).take 1), bytesNat ((bytes.drop 9).take 2),
        bytesNat ((bytes.drop 11).take 1), bytesNat ((bytes.drop 12).take 2)] := by
    simp [readFields, entryWidths]
  constructor
  · intro h
    refine ⟨?_, parseEntry_inRange h⟩
    unfold parseEntry at h
    dsimp only at h
    split at h
    · next state shed restore hstate hshed hrestore =>
      obtain ⟨shedFlags, shedDraw, -⟩ := (parseCandidate_eq_some_iff (by decide)).mp hshed
      obtain ⟨restoreFlags, restoreDraw, -⟩ := (parseCandidate_eq_some_iff (by decide)).mp hrestore
      split at h
      · cases h
        rw [read, entryFields, tenantStateOf_eq_some_iff.mp hstate, shedFlags, shedDraw, restoreFlags, restoreDraw]
      · cases h
    · cases h
  · rintro ⟨fields, idLow, idHigh, -, -, shed, restore⟩
    rw [read] at fields
    simp only [entryFields, List.cons.injEq, and_true] at fields
    obtain ⟨id, contribution, code, state, shedFlags, shedDraw, restoreFlags, restoreDraw⟩ := fields
    simp only [parseEntry, tenantStateOf_eq_some_iff.mpr state,
      (parseCandidate_eq_some_iff (by decide)).mpr ⟨shedFlags, shedDraw, shed⟩,
      (parseCandidate_eq_some_iff (by decide)).mpr ⟨restoreFlags, restoreDraw, restore⟩, ← id, ← contribution, ← code]
    exact if_pos ⟨idLow, idHigh⟩

/-- What is written of an entry fits its widths. -/
theorem entryFields_fit {e : SummaryEntry} (h : EntryInRange e) :
    List.Forall₂ (fun w n => n < 256 ^ w) entryWidths (entryFields e) := by
  obtain ⟨-, id, contribution, code, shed, restore⟩ := h
  have candidate {maxRank : Nat} {x : Option Candidate} (hm : maxRank ≤ 15) (hx : CandidateInRange maxRank x) :
      candidateFlags x < 256 ∧ candidateDraw x < 65536 := by
    cases x with
    | none => decide
    | some d =>
      obtain ⟨rank, fits⟩ := hx d rfl
      simp only [candidateFlags, candidateDraw]
      omega
  have state := e.state.code.isLt
  obtain ⟨shedFlags, shedDraw⟩ := candidate (by decide) shed
  obtain ⟨restoreFlags, restoreDraw⟩ := candidate (by decide) restore
  simp only [entryWidths, entryFields, List.forall₂_cons, List.Forall₂.nil, and_true]
  omega

theorem parseEntry_entryBytes {e : SummaryEntry} (h : EntryInRange e) : parseEntry (entryBytes e) = some e := by
  rw [parseEntry_eq_some_iff, entryBytes_eq_writeFields, readFields_writeFields (entryFields_fit h)]
  exact ⟨rfl, h⟩

theorem entryBytes_of_parseEntry {e : SummaryEntry} (hl : bytes.length = 14) (h : parseEntry bytes = some e) :
    entryBytes e = bytes := by
  rw [entryBytes_eq_writeFields, (parseEntry_eq_some_iff.mp h).1, writeFields_readFields hl]

theorem parseEntries_flatMap {entries : List SummaryEntry} (h : ∀ e ∈ entries, EntryInRange e) :
    parseEntries entries.length (entries.flatMap entryBytes) = some entries := by
  induction entries with
  | nil => rfl
  | cons e rest ih =>
    rw [List.length_cons, parseEntries, List.flatMap_cons, List.take_left' (entryBytes_length e),
      List.drop_left' (entryBytes_length e), parseEntry_entryBytes (h e List.mem_cons_self),
      ih fun x hx => h x (List.mem_cons_of_mem e hx)]

theorem flatMap_of_parseEntries {n : Nat} {entries : List SummaryEntry} (hl : bytes.length = 14 * n)
    (h : parseEntries n bytes = some entries) : entries.flatMap entryBytes = bytes := by
  induction n generalizing bytes entries with
  | zero =>
    cases h
    exact (List.eq_nil_of_length_eq_zero hl).symm
  | succ n ih =>
    unfold parseEntries at h
    split at h
    · next e rest he hrest =>
      cases h
      have first : (bytes.take 14).length = 14 := by rw [List.length_take]; omega
      have others : (bytes.drop 14).length = 14 * n := by rw [List.length_drop]; omega
      rw [List.flatMap_cons, entryBytes_of_parseEntry first he, ih others hrest, List.take_append_drop]
    · cases h

/-! ### Contents -/

theorem parseAnnounce_bytes {slots : Nat} (h : ContentInRange (.announce slots)) :
    parseAnnounce (FrameContent.bytes (.announce slots)) = some (.announce slots) := by
  obtain ⟨low, high⟩ := h
  have value : (BitVec.ofNat 8 slots).toNat = slots := by
    rw [BitVec.toNat_ofNat]
    omega
  simp only [parseAnnounce, FrameContent.bytes, value]
  exact if_pos ⟨low, high⟩

theorem bytes_of_parseAnnounce (h : parseAnnounce bytes = some c) : c.cls = 2 ∧ c.bytes = bytes := by
  unfold parseAnnounce at h
  split at h
  · split at h
    · cases h
      exact ⟨rfl, by simp [FrameContent.bytes]⟩
    · cases h
  · cases h

/-- The widths of a NOTE's fields: tenant ID, direction and rank, draw, stamp (R177). -/
def noteWidths : List Nat := [2, 1, 2, 1]

theorem noteBytes_eq_writeFields (id : Nat) (d : NoteDirection) (rank draw stamp : Nat) :
    FrameContent.bytes (.note id d rank draw stamp) =
      writeFields noteWidths [id, d.code.toNat * 128 + rank, draw, stamp] := by
  simp [FrameContent.bytes, noteWidths, writeFields, natBytes]

theorem readFields_noteWidths (bytes : List Byte) : readFields noteWidths bytes =
    [bytesNat ((bytes.drop 0).take 2), bytesNat ((bytes.drop 2).take 1), bytesNat ((bytes.drop 3).take 2),
      bytesNat ((bytes.drop 5).take 1)] := by
  simp [readFields, noteWidths]

theorem parseNote_bytes {id : Nat} {d : NoteDirection} {rank draw stamp : Nat}
    (h : ContentInRange (.note id d rank draw stamp)) :
    parseNote (FrameContent.bytes (.note id d rank draw stamp)) = some (.note id d rank draw stamp) := by
  obtain ⟨idLow, idHigh, rankHigh, drawHigh, stampHigh⟩ := h
  have flag : d.code.toNat ≤ 1 := by cases d <;> decide
  have fields := readFields_writeFields (ws := noteWidths) (ns := [id, d.code.toNat * 128 + rank, draw, stamp]) (by
    simp only [noteWidths, List.forall₂_cons, List.Forall₂.nil, and_true]
    omega)
  have length : (FrameContent.bytes (.note id d rank draw stamp)).length = 6 := by simp [FrameContent.bytes]
  rw [← noteBytes_eq_writeFields, readFields_noteWidths] at fields
  simp only [List.cons.injEq, and_true] at fields
  obtain ⟨hid, hflag, hdraw, hstamp⟩ := fields
  have rankRead : (d.code.toNat * 128 + rank) % 128 = rank := by omega
  have directionRead : (if d.code.toNat * 128 + rank < 128 then NoteDirection.shed else .restore) = d := by
    cases d with
    | shed => exact if_pos (by simp [NoteDirection.code]; omega)
    | restore => exact if_neg (by simp [NoteDirection.code])
  simp only [parseNote, hid, hflag, hdraw, hstamp, rankRead, directionRead]
  exact if_pos ⟨length, idLow, idHigh, Nat.lt_succ_of_le rankHigh, drawHigh⟩

/-- A NOTE's third byte from the direction and rank that are read of it (R177). -/
theorem noteFlags_read {n : Nat} (h : n < 256) :
    (if n < 128 then NoteDirection.shed else .restore).code.toNat * 128 + n % 128 = n := by
  split
  · change 0 * 128 + n % 128 = n
    omega
  · change 1 * 128 + n % 128 = n
    omega

theorem bytes_of_parseNote (h : parseNote bytes = some c) : c.cls = 0 ∧ c.bytes = bytes := by
  unfold parseNote at h
  dsimp only at h
  split at h
  · next checks =>
    have fields := writeFields_readFields (ws := noteWidths) checks.1
    have flags := noteFlags_read (bytesNat_take_lt bytes 2 1)
    rw [readFields_noteWidths] at fields
    cases h
    refine ⟨rfl, ?_⟩
    rw [noteBytes_eq_writeFields]
    exact (congrArg (fun n => writeFields noteWidths [_, n, _, _]) flags).trans fields
  · cases h

/-- A SUMMARY is read from its stamp, its second byte and its entries (R75, R177). -/
theorem parseSummary_cons (a b : Byte) (rest : List Byte) : parseSummary (a :: b :: rest) =
    if rest.length = 14 * (b.toNat % 16) ∧ 1 ≤ b.toNat % 16 ∧ b.toNat % 16 ≤ 8 ∧ b.toNat / 16 % 8 ≤ 1 then
      (parseEntries (b.toNat % 16) rest).map fun entries =>
        .summary a.toNat (b.toNat / 16 % 8) (decide (128 ≤ b.toNat)) entries
    else none := by
  have length (n : Nat) : rest.length + 1 + 1 = 2 + n ↔ rest.length = n := by omega
  simp [parseSummary, bytesNat, length]

/-- The second byte of a SUMMARY: last flag, segment index and count (R177). -/
def summaryFlags (segment : Nat) (last : Bool) (count : Nat) : Byte :=
  BitVec.ofNat 8 ((if last then 128 else 0) + segment * 16 + count)

theorem summaryFlags_toNat {segment count : Nat} {last : Bool} (hs : segment ≤ 1) (hc : count ≤ 8) :
    (summaryFlags segment last count).toNat % 16 = count ∧
      (summaryFlags segment last count).toNat / 16 % 8 = segment ∧
      decide (128 ≤ (summaryFlags segment last count).toNat) = last := by
  rw [summaryFlags, BitVec.toNat_ofNat]
  cases last
  · simp only [Bool.false_eq_true, if_false, decide_eq_false_iff_not]
    omega
  · simp only [if_true, decide_eq_true_eq]
    omega

theorem summaryFlags_read (b : Byte) :
    summaryFlags (b.toNat / 16 % 8) (decide (128 ≤ b.toNat)) (b.toNat % 16) = b := by
  have bound := b.isLt
  have packed : (if decide (128 ≤ b.toNat) then 128 else 0) + b.toNat / 16 % 8 * 16 + b.toNat % 16 = b.toNat := by
    simp only [decide_eq_true_eq]
    split <;> omega
  rw [summaryFlags, packed, BitVec.ofNat_toNat, BitVec.setWidth_eq]

theorem parseSummary_bytes {stamp segment : Nat} {last : Bool} {entries : List SummaryEntry}
    (h : ContentInRange (.summary stamp segment last entries)) :
    parseSummary (FrameContent.bytes (.summary stamp segment last entries)) =
      some (.summary stamp segment last entries) := by
  obtain ⟨stampHigh, segmentHigh, someUsed, few, range⟩ := h
  obtain ⟨count, index, lastRead⟩ := summaryFlags_toNat (last := last) segmentHigh few
  have stampRead : (BitVec.ofNat 8 stamp).toNat = stamp := by
    rw [BitVec.toNat_ofNat]
    omega
  have length : (entries.flatMap entryBytes).length = 14 * entries.length := by
    simp [List.length_flatMap, Nat.mul_comm]
  refine (parseSummary_cons (BitVec.ofNat 8 stamp) (summaryFlags segment last entries.length)
    (entries.flatMap entryBytes)).trans ?_
  rw [count, index, if_pos ⟨length, someUsed, few, segmentHigh⟩, parseEntries_flatMap range, stampRead,
    Option.map_some, lastRead]

theorem bytes_of_parseSummary (h : parseSummary bytes = some c) : c.cls = 1 ∧ c.bytes = bytes := by
  have long : 2 ≤ bytes.length := by
    unfold parseSummary at h
    dsimp only at h
    split at h
    · next checks => exact checks.1 ▸ Nat.le_add_right 2 _
    · cases h
  rcases bytes with _ | ⟨a, _ | ⟨b, rest⟩⟩
  · exact absurd long (by simp)
  · exact absurd long (by simp)
  · rw [parseSummary_cons] at h
    split at h
    · next checks =>
      obtain ⟨entries, parsed, rfl⟩ := Option.map_eq_some_iff.mp h
      refine ⟨rfl, ?_⟩
      have content := flatMap_of_parseEntries checks.1 parsed
      have flags := summaryFlags_read b
      rw [← (parseEntries_inRange parsed).1] at flags
      rw [FrameContent.bytes, content, BitVec.ofNat_toNat, BitVec.setWidth_eq]
      exact congrArg (fun x => a :: x :: rest) flags
    · cases h

/-! ### Frames -/

theorem parseContent_bytes (h : ContentInRange c) : parseContent c.cls c.bytes = some c := by
  cases c with
  | announce slots => exact parseAnnounce_bytes h
  | summary stamp segment last entries => exact parseSummary_bytes h
  | note id d rank draw stamp => exact parseNote_bytes h

theorem bytes_of_parseContent {cls : Nat} (h : parseContent cls bytes = some c) : c.cls = cls ∧ c.bytes = bytes := by
  unfold parseContent at h
  split at h
  · exact bytes_of_parseNote h
  · exact bytes_of_parseSummary h
  · exact bytes_of_parseAnnounce h
  · cases h

@[simp] theorem crcBytes_length (bytes : List Byte) : (crcBytes bytes).length = 2 := natBytes_length 2 _

theorem FrameContent.cls_le (c : FrameContent) : c.cls ≤ 2 := by cases c <;> simp [FrameContent.cls]

/-- A frame is checked and read by its key and what stands before its CRC (R75). -/
theorem parseFrame_append (key : Byte) (rest tail : List Byte) (h : tail.length = 2) :
    parseFrame (key :: rest ++ tail) =
      if crcBytes (key :: rest) = tail ∧ 1 ≤ key.toNat % 64 then
        (parseContent (key.toNat / 64) rest).map fun c => (key.toNat % 64, c)
      else none := by
  have length : (key :: rest ++ tail).length - 2 = (key :: rest).length := by
    rw [List.length_append, h, Nat.add_sub_cancel]
  rw [parseFrame, length, List.take_left, List.drop_left]

theorem parseFrame_frameBytes (low : 1 ≤ station) (high : station ≤ 63) (h : ContentInRange c) :
    parseFrame (frameBytes station c) = some (station, c) := by
  have key : (keyByte station c).toNat = c.cls * 64 + station := by
    have := c.cls_le
    rw [keyByte, BitVec.toNat_ofNat]
    omega
  have sender : (keyByte station c).toNat % 64 = station := by omega
  have cls : (keyByte station c).toNat / 64 = c.cls := by omega
  rw [frameBytes, parseFrame_append _ _ _ (crcBytes_length _), sender, cls, parseContent_bytes h, if_pos ⟨rfl, low⟩]
  rfl

theorem frameBytes_of_parseFrame (h : parseFrame bytes = some (station, c)) : bytes = frameBytes station c := by
  have split : bytes = bytes.take (bytes.length - 2) ++ bytes.drop (bytes.length - 2) :=
    (List.take_append_drop _ _).symm
  unfold parseFrame at h
  dsimp only at h
  split at h
  · cases h
  · next key rest body =>
    split at h
    · next checks =>
      obtain ⟨d, hd, e⟩ := Option.map_eq_some_iff.mp h
      obtain ⟨rfl, rfl⟩ := Prod.mk.inj e
      obtain ⟨cls, content⟩ := bytes_of_parseContent hd
      have keyed : keyByte (key.toNat % 64) d = key := by
        rw [keyByte, cls, Nat.div_add_mod', BitVec.ofNat_toNat, BitVec.setWidth_eq]
      rw [split, body, ← checks.1, body, frameBytes, keyed, content]
    · cases h

/-- Settles O46: the content is read back by its class, and the bytes read are put together again. -/
theorem framesReadBackAsBuilt : Obligations.FramesReadBackAsBuilt := by
  refine ⟨fun station c low high range => parseFrame_frameBytes low high range, fun bytes station c h => ?_⟩
  obtain ⟨⟨low, high⟩, range⟩ := parseFrame_inRange h
  exact ⟨low, high, range, frameBytes_of_parseFrame h⟩

end Sys2Proof.Machine
end

section
/-! The Contribution Table by its operations: coverage and places (R85, R86, R88), and a summary entry learned (R86 to
R90). -/

namespace Sys2Proof.Machine

open Sys2Proof.Claims

variable {s : State} {k : SlotIx} {station stamp : Nat} {i : PlaceIx} {d : DynEntry} {e : SummaryEntry}

/-! ### Coverage and places -/

theorem State.covered_iff :
    s.covered k station = true ↔ ∃ n f, s.fixedEntry n = some f ∧ f.slot = k ∧ f.covers = some station := by
  simp only [State.covered, State.fixedOf, allFixed, List.any_eq_true, List.mem_filter, List.mem_filterMap,
    List.mem_finRange, true_and, beq_iff_eq]
  constructor
  · rintro ⟨f, ⟨⟨n, hn⟩, hk⟩, hc⟩
    exact ⟨n, f, hn, hk, hc⟩
  · rintro ⟨n, f, hn, hk, hc⟩
    exact ⟨f, ⟨⟨n, hn⟩, hk⟩, hc⟩

/-- The entry at a place has this key (R82). -/
def State.KeyAt (s : State) (k : SlotIx) (station : Nat) (i : PlaceIx) : Prop :=
  ∃ d, s.entry i = some d ∧ d.slot = k ∧ d.station = station

theorem State.placeOf_spec (h : s.placeOf k station = some i) : s.KeyAt k station i := by
  have found := List.find?_some h
  simpa [State.KeyAt, Option.any_eq_true] using found

theorem State.placeOf_eq_none_iff : s.placeOf k station = none ↔ ∀ i, ¬ s.KeyAt k station i := by
  simp [State.placeOf, State.KeyAt, allPlaces, Option.any_eq_true]

/-- One entry with a key is the entry found (R86). -/
theorem State.placeOf_of_only (key : s.KeyAt k station i) (only : ∀ j, s.KeyAt k station j → j = i) :
    s.placeOf k station = some i := by
  cases h : s.placeOf k station with
  | none => exact absurd key (State.placeOf_eq_none_iff.mp h i)
  | some j => rw [only j (State.placeOf_spec h)]

theorem State.freePlace_eq_none_iff : s.freePlace = none ↔ ∀ i, s.entry i ≠ none := by
  simp [State.freePlace, allPlaces]

/-- The free place of lowest index is the one taken (R88). -/
theorem State.freePlace_of_lowest (free : s.entry i = none) (lowest : ∀ j, s.entry j = none → i ≤ j) :
    s.freePlace = some i := by
  refine List.find?_eq_some_iff_getElem.mpr ⟨by simp [free], i.val, by simp [allPlaces], by simp [allPlaces], ?_⟩
  intro j hj
  have used : s.entry ⟨j, hj.trans i.isLt⟩ ≠ none := fun h => absurd (lowest _ h) (by simpa [Fin.le_def] using hj)
  simpa [allPlaces] using Option.isSome_iff_ne_none.mpr used

/-! ### A summary entry learned -/

/-- R90's check, the notice and the report written out. -/
theorem State.checkMismatch_eq (s : State) (i : PlaceIx) (d : DynEntry) :
    s.checkMismatch i d = storedChecked s i d := by
  unfold State.checkMismatch storedChecked
  dsimp only
  split
  · next same =>
    rw [if_neg fun h => h.1.2 same]
    rfl
  · next other =>
    split
    · next zero =>
      rw [if_neg fun h => h.1 zero, if_neg fun h => h.1.1 zero]
      rfl
    · next code =>
      have away : d.code ≠ 0 ∧ d.code ≠ (s.tenant d.slot).contractCode := ⟨code, other⟩
      rw [if_pos away]
      cases reported : d.mismatch with
      | true =>
        rw [if_pos rfl, if_neg fun h => absurd h.2 (by decide), ← reported]
        rfl
      | false =>
        rw [if_neg (by decide), if_pos ⟨away, rfl⟩, State.raise_eq]
        rfl

theorem State.learn_covered (h : s.covered k station = true) : s.learn station stamp k e = s := if_pos h

theorem State.learn_refreshed (uncovered : s.covered k station = false) (h : s.placeOf k station = some i)
    (hd : s.entry i = some d) :
    s.learn station stamp k e = storedChecked s i (learnt k station stamp d.mismatch e) := by
  simp only [State.learn, uncovered, h, hd, State.checkMismatch_eq]
  rfl

theorem State.learn_created (uncovered : s.covered k station = false) (h : s.placeOf k station = none)
    (hi : s.freePlace = some i) :
    s.learn station stamp k e = storedChecked s i (learnt k station stamp false e) := by
  simp only [State.learn, uncovered, h, hi, State.checkMismatch_eq]
  rfl

theorem State.learn_refused (uncovered : s.covered k station = false) (h : s.placeOf k station = none)
    (full : s.freePlace = none) : s.learn station stamp k e = s.refuseCreation k station := by
  simp only [State.learn, uncovered, h, full]
  rfl

theorem State.refuseCreation_eq (s : State) (k : SlotIx) (station : Nat) :
    s.refuseCreation k station = { s with
      ctb := { s.ctb with full := true }
      nq := if s.ctb.full then s.nq else raised s [.tableFull k station] } := by
  unfold State.refuseCreation
  split
  · next full => rw [← full]
  · exact State.raise_eq _ _

/-- Settles O41: by coverage, by the place of the key, and by the free place of lowest index. -/
theorem summaryEntryIsLearned : Obligations.SummaryEntryIsLearned := by
  intro s station stamp k e isKey covered
  refine ⟨fun hc => State.learn_covered (State.covered_iff.mpr hc), fun hc => ?_⟩
  have uncovered : s.covered k station = false := Bool.eq_false_iff.mpr (mt State.covered_iff.mp hc)
  refine ⟨fun i d hd hk hs only => ?_, fun unknown => ?_⟩
  · exact State.learn_refreshed uncovered (State.placeOf_of_only ⟨d, hd, hk, hs⟩ only) hd
  · have noKey := State.placeOf_eq_none_iff.mpr unknown
    refine ⟨fun i free lowest => ?_, fun full => ?_⟩
    · exact State.learn_created uncovered noKey (State.freePlace_of_lowest free lowest)
    · rw [State.learn_refused uncovered noKey (State.freePlace_eq_none_iff.mpr full), State.refuseCreation_eq]

end Sys2Proof.Machine
end

section
/-! AGING_TIMER_EXPIRY: every entry aged in ascending order of index (R91, R92). -/

namespace Sys2Proof.Machine

open Sys2Proof.Claims

variable {s : State} {i : PlaceIx}

/-! ### One entry -/

theorem State.setEntry_self (s : State) (i : PlaceIx) : s.setEntry i (s.entry i) = s := by
  simp [State.setEntry, State.entry]

/-- What a turn of the aging timer leaves of an entry (R92). -/
def DynEntry.aged (e : DynEntry) : Option DynEntry := if e.age < 2 then some { e with age := e.age + 1 } else none

/-- The notice of an entry that a turn of the aging timer removes (R92). -/
def DynEntry.expiry (e : DynEntry) : Option NoticeBody :=
  if e.age < 2 then none else some (.peerExpired e.slot e.station)

theorem DynEntry.aged_eq {e : DynEntry} (young : e.age ≤ 2) :
    e.aged = if e.age = 2 then none else some { e with age := e.age + 1 } := by
  unfold DynEntry.aged
  split
  · rw [if_neg (by omega)]
  · rw [if_pos (by omega)]

theorem DynEntry.expiry_eq {e : DynEntry} (young : e.age ≤ 2) :
    e.expiry = if e.age = 2 then some (.peerExpired e.slot e.station) else none := by
  unfold DynEntry.expiry
  split
  · rw [if_neg (by omega)]
  · rw [if_pos (by omega)]

/-- A place's entry after a turn of the aging timer. -/
def State.agedEntry (s : State) (i : PlaceIx) : Option DynEntry := (s.entry i).bind DynEntry.aged

/-- The notice that the aging of a place raises. -/
def State.expiryAt (s : State) (i : PlaceIx) : Option NoticeBody := (s.entry i).bind DynEntry.expiry

theorem State.ageEntry_eq (s : State) (i : PlaceIx) :
    s.ageEntry i =
      { s.setEntry i (s.agedEntry i) with
        ctb := { (s.setEntry i (s.agedEntry i)).ctb with full := s.ctb.full && (s.expiryAt i).isNone }
        nq := raised s (s.expiryAt i).toList } := by
  have kept : (s.ctb.full && true) = s.ctb.full := Bool.and_true _
  unfold State.ageEntry State.agedEntry State.expiryAt
  split
  · next free =>
    have same := s.setEntry_self i
    rw [free] at same
    simp only [Option.bind_none, Option.isNone_none, kept, same, free]
    rfl
  · next e used =>
    simp only [used, Option.bind_some, DynEntry.aged, DynEntry.expiry]
    split
    · simp only [Option.isNone_none, kept]
      rfl
    · simp only [State.raise_eq, Option.isNone_some, Bool.and_false]
      rfl

theorem State.entry_ageEntry_self (s : State) (i : PlaceIx) : (s.ageEntry i).entry i = s.agedEntry i := by
  rw [State.ageEntry_eq]
  exact s.entry_setEntry_self i _

theorem State.entry_ageEntry_ne {j : PlaceIx} (h : j ≠ i) : (s.ageEntry i).entry j = s.entry j := by
  rw [State.ageEntry_eq]
  exact s.entry_setEntry_ne (Ne.symm h) _

/-! ### All the entries -/

theorem State.entry_foldl_ageEntry (s : State) (i : PlaceIx) :
    (allPlaces.foldl State.ageEntry s).entry i = s.agedEntry i := by
  have each := foldl_worked (get := State.entry) (f := State.ageEntry) (work := State.agedEntry)
    State.entry_ageEntry_self (fun _ _ _ => State.entry_ageEntry_ne)
    (fun _ _ _ h => congrArg (Option.bind · DynEntry.aged) (State.entry_ageEntry_ne h))
    allPlaces (List.nodup_finRange 128) s i
  exact each.trans (if_pos (List.mem_finRange i))

/-- The notices are raised in the order of the turns, and the first removal clears the table-full condition. -/
theorem foldl_ageEntry_frame (l : List PlaceIx) (distinct : l.Nodup) (s : State) :
    ∃ dyn, l.foldl State.ageEntry s = { s with
      ctb := { s.ctb with dyn := dyn, full := s.ctb.full && (l.filterMap s.expiryAt).isEmpty }
      nq := raised s (l.filterMap s.expiryAt) } := by
  induction l generalizing s with
  | nil => exact ⟨s.ctb.dyn, by simp [raised, raisedAll]⟩
  | cons i l ih =>
    obtain ⟨other, distinct⟩ := List.nodup_cons.mp distinct
    obtain ⟨dyn, rest⟩ := ih distinct (s.ageEntry i)
    have later : l.filterMap (s.ageEntry i).expiryAt = l.filterMap s.expiryAt :=
      List.filterMap_congr fun j hj =>
        congrArg (Option.bind · DynEntry.expiry) (State.entry_ageEntry_ne fun e => other (e ▸ hj))
    refine ⟨dyn, ?_⟩
    rw [List.foldl_cons, rest, later, ← List.singleton_append, List.filterMap_append, raised_append,
      State.ageEntry_eq]
    cases h : s.expiryAt i with
    | none => simp [h, raised, raisedAll, State.setEntry]
    | some b => simp [h, raised, raisedAll, State.setEntry]

theorem exec_agingTimerExpiry_stopped (held : s.resetHeld = false) (h : s.ctb.timer = none) :
    exec .agingTimerExpiry s = .next s := by
  rw [exec, execAgingTimerExpiry, unlessHeld_free held, h]

/-- The aging timer started again (R91). -/
def State.agingStarted (s : State) : State := { s with ctb := { s.ctb with timer := some s.agingTicks } }

theorem exec_agingTimerExpiry {n : Nat} (held : s.resetHeld = false) (h : s.ctb.timer = some n) :
    exec .agingTimerExpiry s = .next (allPlaces.foldl State.ageEntry s.agingStarted) := by
  rw [exec, execAgingTimerExpiry, unlessHeld_free held, h]
  rfl

/-- Settles O40: the timer starts again, and each place is aged once, its notice in its turn. -/
theorem agingStepsEveryEntry : Obligations.AgingStepsEveryEntry := by
  refine fun s held => ⟨exec_agingTimerExpiry_stopped held, ?_⟩
  intro young running expired
  obtain ⟨n, hn⟩ := Option.ne_none_iff_exists'.mp running
  have notices : allPlaces.filterMap s.agingStarted.expiryAt = expired := by
    refine List.filterMap_congr fun i _ => ?_
    change s.expiryAt i = _
    rw [State.expiryAt]
    cases h : s.entry i with
    | none => rfl
    | some e => exact DynEntry.expiry_eq (young i e h)
  obtain ⟨dyn, frame⟩ := foldl_ageEntry_frame allPlaces (List.nodup_finRange 128) s.agingStarted
  rw [notices] at frame
  refine ⟨_, exec_agingTimerExpiry held hn, ?_, fun i => ?_⟩
  · rw [frame]
    rfl
  · rw [State.entry_foldl_ageEntry]
    change s.agedEntry i = _
    rw [State.agedEntry]
    cases h : s.entry i with
    | none => rfl
    | some e => exact DynEntry.aged_eq (young i e h)

end Sys2Proof.Machine
end

section
/-! NOTEs and the timers they start: a pending adjustment of the Contribution Table (R94, R95) and a settle timer of
the Curtailment Unit (R115, R116), with a running out that falls in the moment of a NOTE (log entry 32). -/

namespace Sys2Proof.Machine

open Sys2Proof.Claims

variable {s : State} {i : PlaceIx} {e : DynEntry} {a : Adjustment} {n : HeardNote} {rest : List HeardNote}

/-! ### Pending adjustments -/

theorem State.setEntry_setEntry (s : State) (i : PlaceIx) (x y : Option DynEntry) :
    (s.setEntry i x).setEntry i y = s.setEntry i y := by
  simp [State.setEntry]

/-- An entry after its adjustment's expiry (R95). -/
def DynEntry.expired (e : DynEntry) : DynEntry := { e with adjustment := e.adjustment.bind Adjustment.expire }

theorem DynEntry.expired_none (h : e.adjustment = none) : e.expired = e := by
  rw [DynEntry.expired, h, Option.bind_none, ← h]

theorem DynEntry.expired_some (h : e.adjustment = some a) :
    e.expired = { e with adjustment := if a.oldDue then some { a with oldDue := false } else none } := by
  rw [DynEntry.expired, h]
  rfl

theorem exec_pendingAdjustmentExpiry (held : s.resetHeld = false) (i : PlaceIx) :
    exec (.pendingAdjustmentExpiry i) s = .next (s.setEntry i ((s.entry i).map DynEntry.expired)) := by
  rw [exec, execPendingAdjustmentExpiry, unlessHeld_free held]
  cases h : s.entry i with
  | none => exact congrArg _ ((h ▸ s.setEntry_self i).symm)
  | some e => rfl

theorem exec_ctbNote_none (held : s.resetHeld = false) (h : s.ctb.notes = []) : exec .ctbNote s = .next s := by
  rw [exec, execCtbNote, unlessHeld_free held, h]

/-- The oldest NOTE that waits for the table taken. -/
def State.ctbNoteTaken (s : State) (rest : List HeardNote) : State := { s with ctb := { s.ctb with notes := rest } }

theorem exec_ctbNote (held : s.resetHeld = false) (h : s.ctb.notes = n :: rest) :
    exec .ctbNote s = .next ((s.ctbNoteTaken rest).applyNote n) := by
  rw [exec, execCtbNote, unlessHeld_free held, h]
  rfl

theorem State.applyNote_covered (h : s.covered n.slot n.station = true) : s.applyNote n = s := if_pos h

theorem State.applyNote_unknown (uncovered : s.covered n.slot n.station = false)
    (h : s.placeOf n.slot n.station = none) : s.applyNote n = s := by
  simp [State.applyNote, uncovered, h]

/-- R94: the entry with the NOTE's key takes its adjustment. -/
theorem State.applyNote_known (uncovered : s.covered n.slot n.station = false)
    (h : s.placeOf n.slot n.station = some i) (he : s.entry i = some e) :
    s.applyNote n = s.setEntry i (some (adjustedBy e n (s.station.settleTallies * 250000))) := by
  simp only [State.applyNote, uncovered, h, he]
  cases e with
  | mk _ _ _ _ _ _ _ _ _ adjustment _ =>
    cases adjustment with
    | none => rfl
    | some a => rfl

/-- Whatever a NOTE does, it does to the entries. -/
theorem State.applyNote_frame (s : State) (n : HeardNote) :
    s.applyNote n = { s with ctb := { s.ctb with dyn := (s.applyNote n).ctb.dyn } } := by
  unfold State.applyNote
  split
  · rfl
  · split
    · rfl
    · rfl

/-- Where no two entries have one key, a NOTE changes the entry with its key alone. -/
theorem State.entry_applyNote (uncovered : s.covered n.slot n.station = false)
    (keys : ∀ i j e f, s.entry i = some e → s.entry j = some f → e.slot = f.slot → e.station = f.station → i = j)
    (j : PlaceIx) :
    (s.applyNote n).entry j = (s.entry j).map fun e =>
      if e.slot = n.slot ∧ e.station = n.station then adjustedBy e n (s.station.settleTallies * 250000) else e := by
  cases h : s.placeOf n.slot n.station with
  | none =>
    rw [State.applyNote_unknown uncovered h]
    cases hj : s.entry j with
    | none => rfl
    | some f =>
      have other : ¬ (f.slot = n.slot ∧ f.station = n.station) :=
        fun ⟨hk, hs⟩ => State.placeOf_eq_none_iff.mp h j ⟨f, hj, hk, hs⟩
      exact congrArg some (if_neg other).symm
  | some i =>
    obtain ⟨e, he, hk, hs⟩ := State.placeOf_spec h
    rw [State.applyNote_known uncovered h he, State.entry_setEntry]
    split
    · next here =>
      rw [← here, he]
      exact congrArg some (if_pos ⟨hk, hs⟩).symm
    · next elsewhere =>
      cases hj : s.entry j with
      | none => rfl
      | some f =>
        have other : ¬ (f.slot = n.slot ∧ f.station = n.station) :=
          fun key => elsewhere (keys i j e f he hj (hk.trans key.1.symm) (hs.trans key.2.symm))
        exact congrArg some (if_neg other).symm

/-- The expiry of an adjustment that a NOTE of its last tick has replaced leaves the new one (R95; log entry 32). -/
theorem expired_adjustedBy (h : e.adjustment = some a) (due : a.left ≤ 1) (ticks : Nat) :
    (adjustedBy e n ticks).expired = { e with adjustment := some ⟨n.direction, n.draw, ticks, false⟩ } := by
  have marked : (a.oldDue || decide (a.left ≤ 1)) = true := by simp [due]
  simp only [DynEntry.expired, adjustedBy, h, Option.bind_some, Adjustment.expire, marked, if_true]

/-- A NOTE after the expiry sets its adjustment anew (R94). -/
theorem adjustedBy_expired (h : e.adjustment = some a) (unmarked : a.oldDue = false) (ticks : Nat) :
    adjustedBy e.expired n ticks = { e with adjustment := some ⟨n.direction, n.draw, ticks, false⟩ } := by
  rw [DynEntry.expired_some h, unmarked]
  rfl

/-- The oldest NOTE for the table is for the entry at a place, whose adjustment runs out in this moment (R95). -/
structure NoteMeetsExpiry (s : State) (n : HeardNote) (rest : List HeardNote) (i : PlaceIx) (e : DynEntry)
    (a : Adjustment) : Prop where
  held : s.resetHeld = false
  waits : s.ctb.notes = n :: rest
  uncovered : s.covered n.slot n.station = false
  entry : s.entry i = some e
  slot : e.slot = n.slot
  station : e.station = n.station
  adjustment : e.adjustment = some a
  due : a.left ≤ 1
  only : ∀ j, s.KeyAt n.slot n.station j → j = i

/-- The NOTE taken and its adjustment running, with no mark of a former one. -/
def State.noteRuns (s : State) (n : HeardNote) (rest : List HeardNote) (i : PlaceIx) (e : DynEntry) : State :=
  (s.ctbNoteTaken rest).setEntry i
    (some { e with adjustment := some ⟨n.direction, n.draw, s.station.settleTallies * 250000, false⟩ })

theorem NoteMeetsExpiry.noteFirst (h : NoteMeetsExpiry s n rest i e a) :
    ∃ t, exec .ctbNote s = .next t ∧ exec (.pendingAdjustmentExpiry i) t = .next (s.noteRuns n rest i e) := by
  have place : (s.ctbNoteTaken rest).placeOf n.slot n.station = some i :=
    State.placeOf_of_only ⟨e, h.entry, h.slot, h.station⟩ h.only
  have applied := State.applyNote_known (s := s.ctbNoteTaken rest) h.uncovered place h.entry
  refine ⟨_, (exec_ctbNote h.held h.waits).trans (congrArg _ applied), ?_⟩
  refine (exec_pendingAdjustmentExpiry (by exact h.held) i).trans ?_
  rw [State.setEntry_setEntry, State.entry_setEntry_self, Option.map_some,
    expired_adjustedBy h.adjustment h.due]
  rfl

theorem NoteMeetsExpiry.expiryFirst (h : NoteMeetsExpiry s n rest i e a) (unmarked : a.oldDue = false) :
    ∃ v, exec (.pendingAdjustmentExpiry i) s = .next v ∧ exec .ctbNote v = .next (s.noteRuns n rest i e) := by
  obtain ⟨v, hv⟩ : ∃ v, s.setEntry i (some e.expired) = v := ⟨_, rfl⟩
  have entry : v.entry i = some e.expired := by rw [← hv, State.entry_setEntry_self]
  have only : ∀ j, v.KeyAt n.slot n.station j → j = i := by
    rintro j ⟨d, hd, key⟩
    by_contra elsewhere
    rw [← hv, State.entry_setEntry_ne _ (Ne.symm elsewhere)] at hd
    exact elsewhere (h.only j ⟨d, hd, key⟩)
  have place : (v.ctbNoteTaken rest).placeOf n.slot n.station = some i :=
    State.placeOf_of_only ⟨e.expired, entry, h.slot, h.station⟩ only
  have uncovered : (v.ctbNoteTaken rest).covered n.slot n.station = false := hv ▸ h.uncovered
  have held : v.resetHeld = false := hv ▸ h.held
  have waits : v.ctb.notes = n :: rest := by rw [← hv]; exact h.waits
  refine ⟨v, ?_, ?_⟩
  · rw [exec_pendingAdjustmentExpiry h.held, h.entry, Option.map_some, hv]
  · rw [exec_ctbNote held waits, State.applyNote_known uncovered place entry,
      adjustedBy_expired h.adjustment unmarked, ← hv]
    exact congrArg _ ((s.ctbNoteTaken rest).setEntry_setEntry i _ _)

/-! ### Settle timers -/

theorem lastTick_eq (t : Timer) : Timer.due t = lastTick t := by
  cases t with
  | none => rfl
  | some n => rfl

theorem exec_settleTimerExpiry (held : s.resetHeld = false) (k : SlotIx) :
    exec (.settleTimerExpiry k) s = .next (withSlotItems s k (s.curSlot k).expire) := by
  rw [exec, execSettleTimerExpiry, unlessHeld_free held]
  rfl

theorem exec_curNote_none (held : s.resetHeld = false) (h : s.cur.notes = []) : exec .curNote s = .next s := by
  rw [exec, execCurNote, unlessHeld_free held, h]

/-- The oldest NOTE that waits for curtailment taken. -/
def State.curNoteTaken (s : State) (rest : List HeardNote) : State := { s with cur := { s.cur with notes := rest } }

theorem exec_curNote (held : s.resetHeld = false) (h : s.cur.notes = n :: rest) :
    exec .curNote s = .next
      (if s.covered n.slot n.station then s.curNoteTaken rest
      else settleStarted (s.curNoteTaken rest) n.slot (s.station.settleTallies * 250000)) := by
  rw [exec, execCurNote, unlessHeld_free held, h]
  refine congrArg _ (if_congr Iff.rfl rfl ?_)
  unfold State.startSettle CurSlot.restart
  rw [lastTick_eq]
  rfl

@[simp] theorem withSlotItems_curSlot (s : State) (k : SlotIx) (x : CurSlot) : (withSlotItems s k x).curSlot k = x :=
  s.curSlot_setCurSlot_self k x

@[simp] theorem withSlotItems_withSlotItems (s : State) (k : SlotIx) (x y : CurSlot) :
    withSlotItems (withSlotItems s k x) k y = withSlotItems s k y := by
  simp [withSlotItems]

/-- The oldest NOTE for curtailment is for a slot whose settle timer runs out in this moment (R116). -/
structure NoteMeetsSettled (s : State) (n : HeardNote) (rest : List HeardNote) : Prop where
  held : s.resetHeld = false
  waits : s.cur.notes = n :: rest
  uncovered : s.covered n.slot n.station = false
  due : lastTick (s.curSlot n.slot).settle = true

/-- The NOTE taken and its settle timer running, with no mark of a former run. -/
def State.settleRuns (s : State) (n : HeardNote) (rest : List HeardNote) : State :=
  withSlotItems (s.curNoteTaken rest) n.slot
    { s.curSlot n.slot with settle := some (s.station.settleTallies * 250000), oldDue := false }

theorem NoteMeetsSettled.noteFirst (h : NoteMeetsSettled s n rest) :
    ∃ t, exec .curNote s = .next t ∧ exec (.settleTimerExpiry n.slot) t = .next (s.settleRuns n rest) := by
  have marked : ((s.curSlot n.slot).oldDue || lastTick (s.curSlot n.slot).settle) = true := by
    rw [h.due, Bool.or_true]
  refine ⟨_, (exec_curNote h.held h.waits).trans (congrArg _ (if_neg (by simp [h.uncovered]))), ?_⟩
  refine (exec_settleTimerExpiry (by exact h.held) n.slot).trans ?_
  rw [settleStarted, withSlotItems_curSlot, withSlotItems_withSlotItems]
  exact congrArg (fun c => Host.Outcome.next (withSlotItems (s.curNoteTaken rest) n.slot c)) (if_pos marked)

theorem NoteMeetsSettled.expiryFirst (h : NoteMeetsSettled s n rest) (unmarked : (s.curSlot n.slot).oldDue = false) :
    ∃ v, exec (.settleTimerExpiry n.slot) s = .next v ∧ exec .curNote v = .next (s.settleRuns n rest) := by
  have stopped : (s.curSlot n.slot).expire = { s.curSlot n.slot with settle := none } := if_neg (by simp [unmarked])
  refine ⟨_, exec_settleTimerExpiry h.held n.slot, ?_⟩
  refine (exec_curNote (by exact h.held) (by exact h.waits)).trans (congrArg _ ?_)
  refine (if_neg (ne_true_of_eq_false h.uncovered)).trans ?_
  have slot : ((withSlotItems s n.slot (s.curSlot n.slot).expire).curNoteTaken rest).curSlot n.slot =
      { s.curSlot n.slot with settle := none } := (withSlotItems_curSlot _ _ _).trans stopped
  rw [settleStarted, slot]
  refine (withSlotItems_withSlotItems (s.curNoteTaken rest) n.slot _ _).trans ?_
  dsimp only
  rw [unmarked]
  rfl

/-! ### The settlement -/

/-- Settles O39: each command by what it takes; and a NOTE and an expiry of one moment, in either order, by the one
state that both leave. -/
theorem notesAndTheirTimers : Obligations.NotesAndTheirTimers := by
  intro s held
  refine ⟨fun i => ?_, fun k => ?_, exec_ctbNote_none held, fun n rest waits => ?_,
    fun n rest i e a waits uncovered entry slot station adjustment due only => ?_, exec_curNote_none held,
    fun n rest waits => ⟨exec_curNote held waits, fun uncovered due => ?_⟩⟩
  · refine ⟨_, exec_pendingAdjustmentExpiry held i, rfl, fun j => ?_⟩
    rw [State.entry_setEntry]
    refine if_congr eq_comm ?_ rfl
    refine congrArg (Option.map · _) (funext fun e => ?_)
    cases h : e.adjustment with
    | none => exact DynEntry.expired_none h
    | some a => exact DynEntry.expired_some h
  · exact exec_settleTimerExpiry held k
  · refine ⟨_, exec_ctbNote held waits, State.applyNote_frame _ n, fun covered j => ?_, fun uncovered keys j => ?_⟩
    · have ignored := State.applyNote_covered (s := s.ctbNoteTaken rest) covered
      rw [ignored]
      rfl
    · exact State.entry_applyNote (s := s.ctbNoteTaken rest) uncovered keys j
  · have h : NoteMeetsExpiry s n rest i e a :=
      ⟨held, waits, uncovered, entry, slot, station, adjustment, due, fun j ⟨f, hf, hk, hs⟩ => only j f hf hk hs⟩
    obtain ⟨t, taken, expired⟩ := h.noteFirst
    refine ⟨t, _, taken, expired, State.entry_setEntry_self _ _ _, fun v w unmarked hv hw => ?_⟩
    obtain ⟨v', hv', hw'⟩ := h.expiryFirst unmarked
    obtain rfl : v' = v := Host.Outcome.next.inj (hv'.symm.trans hv)
    exact Host.Outcome.next.inj (hw'.symm.trans hw)
  · have h : NoteMeetsSettled s n rest := ⟨held, waits, uncovered, due⟩
    obtain ⟨t, taken, expired⟩ := h.noteFirst
    refine ⟨t, _, taken, expired, congrArg CurSlot.settle (withSlotItems_curSlot _ _ _), fun v w unmarked hv hw => ?_⟩
    obtain ⟨v', hv', hw'⟩ := h.expiryFirst unmarked
    obtain rfl : v' = v := Host.Outcome.next.inj (hv'.symm.trans hv)
    exact Host.Outcome.next.inj (hw'.symm.trans hw)

end Sys2Proof.Machine
end

section
/-! READ CONTRIBUTION and SET CURSOR: the item at the cursor, and the cursor's walk through the table (R96, R97). -/

namespace Sys2Proof.Machine

open Sys2Proof.Claims

variable {s : State} {r : Record} {i : Fin 136}

theorem cursorIndex_val {n : Nat} (h : i.val = n) : cursorIndex n = some i := by
  subst h
  exact dif_pos i.isLt

theorem cursorIndex_none {n : Nat} (h : 136 ≤ n) : cursorIndex n = none := dif_neg (Nat.not_lt.mpr h)

/-- The cursor goes on by one, from 135 to 0 (R96). -/
theorem nextCursor_val (i : Fin 136) : (nextCursor i).val = (i.val + 1) % 136 := by
  unfold nextCursor
  split
  · next h => exact (Nat.mod_eq_of_lt h).symm
  · next h =>
    have last : i.val + 1 = 136 := by omega
    rw [last]
    rfl

/-! ### What stands at a cursor index -/

theorem State.cursorItem_dynamic {p : PlaceIx} (h : p.val = i.val) :
    s.cursorItem i = ((s.entry p).map fun e => 1 :: e.bytes).getD [0] := by
  have low : i.val < 128 := h ▸ p.isLt
  have here : (⟨i.val, low⟩ : PlaceIx) = p := Fin.ext h.symm
  rw [State.cursorItem, dif_pos low, here]
  cases s.entry p with
  | none => rfl
  | some e => rfl

theorem State.cursorItem_fixed {n : FixedIx} (h : 128 + n.val = i.val) :
    s.cursorItem i = ((s.fixedEntry n).map fun e => 2 :: e.bytes (n.val + 1)).getD [0] := by
  have high : ¬ i.val < 128 := by omega
  have here : (⟨i.val - 128, by omega⟩ : FixedIx) = n := Fin.ext (show i.val - 128 = n.val by omega)
  have number : i.val - 127 = n.val + 1 := by omega
  rw [State.cursorItem, dif_neg high, here, number]
  cases s.fixedEntry n with
  | none => rfl
  | some e => rfl

/-- A cursor index names a place of the table or a fixed entry. -/
theorem cursor_cases (i : Fin 136) : (∃ p : PlaceIx, p.val = i.val) ∨ ∃ n : FixedIx, 128 + n.val = i.val := by
  by_cases low : i.val < 128
  · exact .inl ⟨⟨i.val, low⟩, rfl⟩
  · exact .inr ⟨⟨i.val - 128, by omega⟩, show 128 + (i.val - 128) = i.val by omega⟩

/-! ### The two commands -/

theorem exec_readContribution (held : s.resetHeld = false) (hp : r.params = []) :
    exec (.readContribution r) s =
      .next { answered s r 5 .ok s.contributionData with
        mpt := { (answered s r 5 .ok s.contributionData).mpt with cursor := nextCursor s.mpt.cursor } } := by
  rw [exec, execReadContribution, portCommand_work held (by rw [hp]; rfl)]
  rfl

theorem exec_setCursor {b : Byte} {more : List Byte} (held : s.resetHeld = false) (h : i.val = b.toNat) :
    exec (.setCursor ⟨[b], more⟩) s =
      .next (answered { s with mpt := { s.mpt with cursor := i } } ⟨[b], more⟩ 6 .ok []) := by
  rw [exec, execSetCursor, portCommand_work (len := 1) held rfl, paramByte_single, cursorIndex_val h]
  rfl

theorem exec_setCursor_bad {b : Byte} {more : List Byte} (held : s.resetHeld = false) (h : 136 ≤ b.toNat) :
    exec (.setCursor ⟨[b], more⟩) s = .next (answered s ⟨[b], more⟩ 6 .badArgument []) := by
  rw [exec, execSetCursor, portCommand_work (len := 1) held rfl, paramByte_single, cursorIndex_none h]
  rfl

/-- Settles O14: the data by what the cursor names, and the cursor's step. -/
theorem cursorWalksTheTable : Obligations.CursorWalksTheTable := by
  refine fun s held => ⟨fun r data hp dynamic free fixed absent => ?_,
    fun b more => ⟨fun i => exec_setCursor held, exec_setCursor_bad held⟩⟩
  have read : s.contributionData = data := by
    unfold State.contributionData
    rcases cursor_cases s.mpt.cursor with ⟨p, hi⟩ | ⟨n, hi⟩
    · rw [State.cursorItem_dynamic hi, ← hi]
      cases he : s.entry p with
      | none => exact (free p hi he).symm
      | some e =>
        rw [dynamic p e hi he]
        simp only [Option.map_some, Option.getD_some, DynEntry.bytes, candidateItem, List.append_assoc]
        rfl
    · rw [State.cursorItem_fixed hi, ← hi]
      cases he : s.fixedEntry n with
      | none => exact (absent n hi he).symm
      | some e =>
        rw [fixed n e hi he]
        simp only [Option.map_some, Option.getD_some, FixedEntry.bytes, List.append_assoc]
        rfl
  exact ⟨_, (exec_readContribution held hp).trans (by rw [read]), rfl, nextCursor_val _⟩

end Sys2Proof.Machine
end

section
/-! What every other block leaves of the Contribution Table: one rule for each of its operations. -/

namespace Sys2Proof.Machine

/-- The Contribution Table, and the own station ID, which no entry may bear (R86). -/
def State.table (s : State) : Nat × Ctb := (s.station.id, s.ctb)

/-! ### The Relay Sequencer -/

@[simp] theorem State.setOutlet_table (s : State) (o : OutletIx) (x : Outlet) :
    (s.setOutlet o x).table = s.table := rfl

@[simp] theorem State.raiseAt_table (s : State) (stamp : Nat) (b : NoticeBody) :
    (s.raiseAt stamp b).table = s.table := rfl

@[simp] theorem State.raise_table (s : State) (b : NoticeBody) : (s.raise b).table = s.table := rfl

@[simp] theorem State.enqueue_table (s : State) (a : Action) : (s.enqueue a).table = s.table := by
  have superseded : (s.supersede a.outlet).table = s.table := by
    unfold State.supersede
    split <;> rfl
  exact superseded

@[simp] theorem State.chooseAt_table (s : State) (stamp : Nat) : (s.chooseAt stamp).table = s.table := by
  obtain ⟨outlets, rsq, nq, h⟩ := s.chooseAt_frame stamp
  rw [h]
  rfl

@[simp] theorem State.choose_table (s : State) : s.choose.table = s.table := s.chooseAt_table _

@[simp] theorem State.retireDone_table (s : State) (a : Action) : (s.retireDone a).table = s.table := by
  unfold State.retireDone
  dsimp only
  split <;> rfl

@[simp] theorem State.retireTimeout_table (s : State) (a : Action) : (s.retireTimeout a).table = s.table := by
  unfold State.retireTimeout
  dsimp only
  split <;> rfl

@[simp] theorem State.retireFaulted_table (stamp : Nat) (s : State) (a : Action) :
    (s.retireFaulted stamp a).table = s.table := by
  unfold State.retireFaulted
  dsimp only
  split <;> rfl

@[simp] theorem State.checkOutlet_table (s : State) (o : OutletIx) : (s.checkOutlet o).table = s.table := by
  unfold State.checkOutlet
  split
  · rfl
  · dsimp only
    split <;> rfl

/-! ### Branch protection -/

@[simp] theorem State.setBranch_table (s : State) (b : BranchIx) (x : Branch) :
    (s.setBranch b x).table = s.table := rfl

@[simp] theorem State.trip_table (s : State) (b : BranchIx) : (s.trip b).table = s.table := by
  have unprotected : (s.unprotectable b).table = s.table := by
    unfold State.unprotectable
    split <;> rfl
  unfold State.trip
  split
  · exact unprotected
  · split
    · simp [State.tripOutlet]
    · rfl
    · rfl
    · rfl

@[simp] theorem State.tripTest_table (s : State) (b : BranchIx) : (s.tripTest b).table = s.table := by
  unfold State.tripTest
  split <;> simp

@[simp] theorem State.branchRestoreTest_table (s : State) (b : BranchIx) :
    (s.branchRestoreTest b).table = s.table := by
  unfold State.branchRestoreTest
  split
  · rfl
  · dsimp only
    split
    · split
      · split <;> simp [State.restoreOutlet, State.setBranchHold]
      · rfl
    · rfl

@[simp] theorem State.stepBranch_table (s : State) (b : BranchIx) : (s.stepBranch b).table = s.table := by
  have tripping (u : State) (isOver : Bool) : (u.stepTripping b isOver).table = u.table := by
    unfold State.stepTripping
    dsimp only
    split
    · rfl
    · split
      · rfl
      · split <;> simp
  unfold State.stepBranch State.stepBranchState
  dsimp only
  split
  · split <;> simp
  · split
    · simp
    · split <;> simp
  · split <;> simp
  · rw [tripping, State.setBranch_table]

/-! ### Metering, the tally and the energy counters -/

@[simp] theorem State.startSweep_table (s : State) : s.startSweep.table = s.table := by
  rw [s.startSweep_eq]
  rfl

@[simp] theorem State.completeSweep_table (s : State) : s.completeSweep.table = s.table := by
  have handed (u : State) : u.handSweep.table = u.table := by
    unfold State.handSweep
    split <;> rfl
  unfold State.completeSweep
  dsimp only
  split
  · exact (State.startSweep_table _).trans (handed _)
  · exact handed _

@[simp] theorem State.visit_table (s : State) (outcome : Option FrontEndReply) :
    (s.visit outcome).table = s.table := by
  have disposed : (s.dispose s.osu.scan outcome).table = s.table := by
    cases outcome with
    | none => rw [State.dispose_silent]; rfl
    | some r => rw [State.dispose_reply]; rfl
  unfold State.visit State.endVisit
  split
  · exact disposed
  · exact (State.completeSweep_table _).trans disposed

@[simp] theorem State.sensorFailed_table (s : State) : s.sensorFailed.table = s.table := by
  unfold State.sensorFailed
  split <;> rfl

theorem foldl_workSlot_table (work : State → SlotIx → SlotRuntime) (l : List SlotIx) (s : State) :
    (l.foldl (State.workSlot work) s).table = s.table := by
  obtain ⟨slots, nq, h⟩ := foldl_workSlot_frame work l s
  rw [h]
  rfl

@[simp] theorem State.addOutletEnergy_table (stamp : Nat) (s : State) (o : OutletIx) :
    (s.addOutletEnergy stamp o).table = s.table := by
  unfold State.addOutletEnergy
  dsimp only
  split <;> rfl

@[simp] theorem State.accountSlot_table (stamp : Nat) (s : State) (k : SlotIx) :
    (s.accountSlot stamp k).table = s.table := by
  have energy : (s.addSlotEnergy stamp k).table = s.table := by
    unfold State.addSlotEnergy
    dsimp only
    split <;> rfl
  have overage (u : State) : (u.addOverage stamp k).table = u.table := by
    unfold State.addOverage
    dsimp only
    split
    · rfl
    · split <;> rfl
  unfold State.accountSlot
  split
  · rw [overage, energy]
  · rfl

/-! ### Curtailment -/

@[simp] theorem State.setCurSlot_table (s : State) (k : SlotIx) (x : CurSlot) :
    (s.setCurSlot k x).table = s.table := rfl

@[simp] theorem State.setHold_table (s : State) (k : SlotIx) (n : Nat) : (s.setHold k n).table = s.table := rfl

@[simp] theorem State.startSettle_table (s : State) (k : SlotIx) : (s.startSettle k).table = s.table := rfl

@[simp] theorem State.sendNote_table (s : State) (id : Nat) (d : NoteDirection) (rank draw : Nat) :
    (s.sendNote id d rank draw).table = s.table := by
  unfold State.sendNote
  split <;> rfl

@[simp] theorem State.shedElection_table (s : State) (k : SlotIx) (stamp : Nat) :
    (s.shedElection k stamp).table = s.table := by
  unfold State.shedElection
  split
  · unfold State.uncurtailable
    split <;> rfl
  · split
    · rfl
    · split
      · simp [State.electShed]
      all_goals rfl

@[simp] theorem State.restoreElection_table (s : State) (k : SlotIx) (stamp : Nat) (c : RowCandidate) :
    (s.restoreElection k stamp c).table = s.table := by
  unfold State.restoreElection
  split
  · rfl
  · split
    · simp [State.electRestore]
    all_goals rfl

@[simp] theorem State.restoreTest_table (s : State) (k : SlotIx) (stamp : Nat) :
    (s.restoreTest k stamp).table = s.table := by
  unfold State.restoreTest
  split
  · rfl
  · split
    · dsimp only
      split
      · simp
      · rfl
    · rfl

@[simp] theorem State.curtailSlot_table (stamp : Nat) (s : State) (k : SlotIx) :
    (s.curtailSlot stamp k).table = s.table := by
  unfold State.curtailSlot
  split
  · rfl
  · split
    · rfl
    · dsimp only
      split
      · rfl
      · split
        · simp
        · simp
        all_goals rfl

/-! ### The row link and the port -/

@[simp] theorem State.sendSummaries_table (s : State) : s.sendSummaries.table = s.table := by
  unfold State.sendSummaries
  dsimp only
  split <;> rfl

@[simp] theorem State.reply_table (s : State) (code : Byte) (st : Status) (d : List Byte) :
    (s.reply code st d).table = s.table := rfl

@[simp] theorem State.refuse_table (s : State) (code : Byte) (st : Status) : (s.refuse code st).table = s.table := rfl

@[simp] theorem State.openByStanding_table (s : State) (o : OutletIx) : (s.openByStanding o).table = s.table := by
  unfold State.openByStanding
  dsimp only
  split
  · split <;> simp
  all_goals rfl

@[simp] theorem State.closeManual_table (s : State) (o : OutletIx) : (s.closeManual o).table = s.table := by
  unfold State.closeManual
  dsimp only
  split <;> simp

@[simp] theorem State.acceptRearm_table (s : State) (o : OutletIx) : (s.acceptRearm o).table = s.table := by
  have flushed := foldl_fixes (g := State.table) (State.retireFaulted_table s.tly.count) (s.rsq.allQueuedFor o)
    { s with rsq := s.rsq.remove o }
  exact (State.choose_table _).trans flushed

@[simp] theorem State.rearmFaulted_table (s : State) (o : OutletIx) : (s.rearmFaulted o).table = s.table := by
  unfold State.rearmFaulted
  split
  · split <;> simp
  · split
    · rfl
    · split <;> simp

@[simp] theorem State.clear_table (s : State) (t : ClearTarget) : (s.clear t).table = s.table := by
  cases t with
  | all => rfl
  | outlet o => rfl
  | slot k => rfl

end Sys2Proof.Machine
end

section
/-! The Contribution Table through every step (O59): its rules by their parts, the commands that leave it, those that
revise its entries in place, and a SUMMARY learned. -/

namespace Sys2Proof.Machine

open Sys2Proof.Safety Sys2Proof.Claims

variable {s t u : State}

/-! ### The rules by their parts -/

/-- TableHolds without the phase: one entry of each key, and none too old, of the own station or covered (R82, R86). -/
structure State.EntriesStand (s : State) : Prop where
  keys : ∀ i j : PlaceIx, ∀ e ∈ s.entry i, ∀ f ∈ s.entry j, e.slot = f.slot → e.station = f.station → i = j
  each : ∀ i : PlaceIx, ∀ e ∈ s.entry i, e.age ≤ 2 ∧ e.station ≠ s.station.id ∧ s.covered e.slot e.station = false

theorem tableHolds_iff (s : State) :
    TableHolds s ↔
      (s.mpt.phase = .config → s.rlc.link = .off ∧ ∀ i : PlaceIx, s.entry i = none) ∧ s.EntriesStand :=
  ⟨fun ⟨p, k, e⟩ => ⟨p, k, e⟩, fun ⟨p, k, e⟩ => ⟨p, k, e⟩⟩

theorem State.entriesStand_of_empty (empty : ∀ i : PlaceIx, s.entry i = none) : s.EntriesStand where
  keys i _ e he := by cases (empty i).symm.trans he
  each i e he := by cases (empty i).symm.trans he

theorem tableHolds_of_empty (off : s.rlc.link = .off) (empty : ∀ i : PlaceIx, s.entry i = none) : TableHolds s :=
  (tableHolds_iff s).mpr ⟨fun _ => ⟨off, empty⟩, State.entriesStand_of_empty empty⟩

/-! ### Entries revised in place -/

/-- Every entry of the second state is one of the first in the same place, its key kept and not made too old; and the
station and the fixed entries are the same. -/
structure Revises (s t : State) : Prop where
  station : t.station.id = s.station.id
  fixed : t.ctb.fixed = s.ctb.fixed
  entries : ∀ i : PlaceIx, ∀ f ∈ t.entry i,
    ∃ e ∈ s.entry i, f.slot = e.slot ∧ f.station = e.station ∧ (e.age ≤ 2 → f.age ≤ 2)

theorem Revises.of_table (h : t.table = s.table) : Revises s t := by
  obtain ⟨station, ctb⟩ := Prod.mk.inj h
  have same (i : PlaceIx) : t.entry i = s.entry i := by rw [State.entry, ctb, State.entry]
  exact ⟨station, congrArg Ctb.fixed ctb, fun i f hf => ⟨f, same i ▸ hf, rfl, rfl, id⟩⟩

theorem Revises.refl (s : State) : Revises s s := .of_table rfl

theorem Revises.trans (h : Revises s u) (k : Revises u t) : Revises s t where
  station := k.station.trans h.station
  fixed := k.fixed.trans h.fixed
  entries i g hg := by
    obtain ⟨f, hf, slot, station, young⟩ := k.entries i g hg
    obtain ⟨e, he, slot', station', young'⟩ := h.entries i f hf
    exact ⟨e, he, slot.trans slot', station.trans station', young ∘ young'⟩

/-- One place rewritten: emptied, or with an entry that revises the one there. -/
theorem Revises.setEntry {i : PlaceIx} {x : Option DynEntry}
    (hx : ∀ f ∈ x, ∃ e ∈ s.entry i, f.slot = e.slot ∧ f.station = e.station ∧ (e.age ≤ 2 → f.age ≤ 2)) :
    Revises s (s.setEntry i x) where
  station := rfl
  fixed := rfl
  entries j f hf := by
    rw [State.entry_setEntry] at hf
    split at hf
    · next here => exact here ▸ hx f hf
    · exact ⟨f, hf, rfl, rfl, id⟩

theorem Revises.covered (h : Revises s t) (k : SlotIx) (station : Nat) :
    t.covered k station = s.covered k station := by
  have same (n : FixedIx) : t.fixedEntry n = s.fixedEntry n := by rw [State.fixedEntry, h.fixed, State.fixedEntry]
  rw [Bool.eq_iff_iff, State.covered_iff, State.covered_iff]
  simp only [same]

theorem Revises.empty (h : Revises s t) {i : PlaceIx} (free : s.entry i = none) : t.entry i = none := by
  cases hf : t.entry i with
  | none => rfl
  | some f =>
    obtain ⟨e, he, -⟩ := h.entries i f hf
    cases free.symm.trans he

theorem Revises.entriesStand (h : Revises s t) (p : s.EntriesStand) : t.EntriesStand where
  keys i j f hf g hg slot station := by
    obtain ⟨e, he, slot₁, station₁, -⟩ := h.entries i f hf
    obtain ⟨d, hd, slot₂, station₂, -⟩ := h.entries j g hg
    exact p.keys i j e he d hd (slot₁.symm.trans (slot.trans slot₂)) (station₁.symm.trans (station.trans station₂))
  each i f hf := by
    obtain ⟨e, he, slot, station, young⟩ := h.entries i f hf
    obtain ⟨age, own, uncovered⟩ := p.each i e he
    rw [h.covered, h.station, slot, station]
    exact ⟨young age, own, uncovered⟩

theorem tableHolds_of_revises (p : TableHolds s) (h : Revises s t)
    (config : t.mpt.phase = .config → s.mpt.phase = .config ∧ (s.rlc.link = .off → t.rlc.link = .off)) :
    TableHolds t := by
  obtain ⟨inConfig, stand⟩ := (tableHolds_iff s).mp p
  refine (tableHolds_iff t).mpr ⟨fun ht => ?_, h.entriesStand stand⟩
  obtain ⟨hs, off⟩ := config ht
  exact ⟨off (inConfig hs).1, fun i => h.empty ((inConfig hs).2 i)⟩

/-! ### What revises the entries -/

theorem State.ageEntry_revises (s : State) (i : PlaceIx) : Revises s (s.ageEntry i) := by
  rw [State.ageEntry_eq]
  have aged : Revises s (s.setEntry i (s.agedEntry i)) := Revises.setEntry fun f hf => by
    obtain ⟨e, he, hef⟩ := Option.bind_eq_some_iff.mp hf
    unfold DynEntry.aged at hef
    split at hef
    · next young =>
      cases hef
      exact ⟨e, he, rfl, rfl, fun _ => young⟩
    · cases hef
  exact ⟨aged.station, aged.fixed, aged.entries⟩

theorem State.applyNote_revises (s : State) (n : HeardNote) : Revises s (s.applyNote n) := by
  unfold State.applyNote
  split
  · exact .refl s
  · split
    · exact .refl s
    · refine Revises.setEntry fun f hf => ?_
      obtain ⟨e, he, rfl⟩ := Option.map_eq_some_iff.mp hf
      exact ⟨e, he, rfl, rfl, id⟩

theorem State.idle_revises (s : State) : Revises s s.idle := by
  unfold State.idle
  split
  · exact .refl s
  · refine ⟨rfl, rfl, fun i f hf => ?_⟩
    have ticked : s.tick.entry i = (s.entry i).map DynEntry.tick := by simp [State.entry, State.tick]
    rw [ticked] at hf
    obtain ⟨e, he, rfl⟩ := Option.map_eq_some_iff.mp hf
    exact ⟨e, he, rfl, rfl, id⟩

/-! ### A SUMMARY learned -/

/-- An entry stored under a key that no other place has (R86). -/
theorem State.EntriesStand.store (p : s.EntriesStand) {i : PlaceIx} {d : DynEntry} (young : d.age ≤ 2)
    (other : d.station ≠ s.station.id) (uncovered : s.covered d.slot d.station = false)
    (only : ∀ j, s.KeyAt d.slot d.station j → j = i) : (s.setEntry i (some d)).EntriesStand where
  keys a b e he f hf slot station := by
    rw [State.entry_setEntry] at he hf
    split at he <;> split at hf
    · next ha hb => exact ha.symm.trans hb
    · next ha _ =>
      cases he
      exact ha.symm.trans (only b ⟨f, hf, slot.symm, station.symm⟩).symm
    · next _ hb =>
      cases hf
      exact (only a ⟨e, he, slot, station⟩).trans hb
    · exact p.keys a b e he f hf slot station
  each j e he := by
    rw [State.entry_setEntry] at he
    split at he
    · cases he
      exact ⟨young, other, uncovered⟩
    · exact p.each j e he

/-- What R90's check changes of an entry is its report. -/
theorem storedChecked_as_setEntry (s : State) (i : PlaceIx) (d : DynEntry) :
    ∃ mismatch nq, storedChecked s i d = { s.setEntry i (some { d with mismatch := mismatch }) with nq := nq } :=
  ⟨_, _, rfl⟩

theorem State.EntriesStand.storedChecked (p : s.EntriesStand) {i : PlaceIx} {d : DynEntry} (young : d.age ≤ 2)
    (other : d.station ≠ s.station.id) (uncovered : s.covered d.slot d.station = false)
    (only : ∀ j, s.KeyAt d.slot d.station j → j = i) : (Claims.storedChecked s i d).EntriesStand := by
  obtain ⟨mismatch, nq, stored⟩ := storedChecked_as_setEntry s i d
  rw [stored]
  have stands := p.store (i := i) (d := { d with mismatch := mismatch }) young other uncovered only
  exact ⟨stands.keys, stands.each⟩

theorem State.EntriesStand.learn (p : s.EntriesStand) {station : Nat} (other : station ≠ s.station.id) (stamp : Nat)
    (k : SlotIx) (e : SummaryEntry) : (s.learn station stamp k e).EntriesStand := by
  cases hc : s.covered k station with
  | true => rwa [State.learn_covered hc]
  | false =>
    cases hp : s.placeOf k station with
    | some i =>
      obtain ⟨d, hd, slot, own⟩ := State.placeOf_spec hp
      rw [State.learn_refreshed hc hp hd]
      refine p.storedChecked (Nat.zero_le 2) other hc ?_
      rintro j ⟨f, hf, slot', station'⟩
      exact p.keys j i f hf d hd (slot'.trans slot.symm) (station'.trans own.symm)
    | none =>
      cases hi : s.freePlace with
      | some i =>
        rw [State.learn_created hc hp hi]
        exact p.storedChecked (Nat.zero_le 2) other hc fun j key => absurd key (State.placeOf_eq_none_iff.mp hp j)
      | none =>
        rw [State.learn_refused hc hp hi, State.refuseCreation_eq]
        exact ⟨p.keys, p.each⟩

theorem State.learn_station (s : State) (station stamp : Nat) (k : SlotIx) (e : SummaryEntry) :
    (s.learn station stamp k e).station = s.station := by
  unfold State.learn
  split
  · rfl
  · split
    · rw [State.checkMismatch_eq]
      rfl
    · split
      · rw [State.checkMismatch_eq]
        rfl
      · rw [State.refuseCreation_eq]

theorem State.EntriesStand.learnSummary (p : s.EntriesStand) {station : Nat} (other : station ≠ s.station.id)
    (stamp : Nat) (l : List SummaryEntry) : (s.learnSummary station stamp l).EntriesStand := by
  refine (foldl_keeps (P := fun u : State => u.station = s.station ∧ u.EntriesStand) (fun u e ⟨same, stand⟩ => ?_) l s
    ⟨rfl, p⟩).2
  split
  · exact ⟨(u.learn_station _ _ _ _).trans same, stand.learn (same ▸ other) _ _ _⟩
  · exact ⟨same, stand⟩

end Sys2Proof.Machine
end

section
/-! The Contribution Table through every step (O59): the commands within a phase that revise its entries in place, or
leave them. -/

namespace Sys2Proof.Machine

open Sys2Proof.Safety

variable {s t : State}

/-! ### Commands that revise the entries -/

/-- The answer of an outcome revises the table's entries in place. -/
def AnswerRevises (s : State) (o : Host.Outcome State Fault Refusal) : Prop := ∀ t, o = .next t → Revises s t

theorem revises_unlessHeld {f : State → State} (h : Revises s (f s)) : AnswerRevises s (unlessHeld s f) := by
  rintro t ⟨⟩
  split
  · exact .refl s
  · exact h

theorem revises_leaves {f : State → State} (h : (f s).table = s.table) : AnswerRevises s (unlessHeld s f) :=
  revises_unlessHeld (.of_table h)

theorem revises_portCommand {code : Byte} {len : Nat} {rec : Record} {work : State → State}
    (h : ∀ u, (work u).table = u.table) : AnswerRevises s (portCommand code len rec s work) := by
  refine revises_leaves ?_
  dsimp only
  split
  · exact h _
  · rfl

theorem revises_outletCommand {code : Byte} {rec : Record} {pins : Contacts} {work : State → OutletIx → State}
    (h : ∀ u o, (work u o).table = u.table) :
    AnswerRevises s (portCommand code 1 rec s fun u => (u.withPins pins).outletCommand code (paramByte rec 0) work) :=
  revises_portCommand fun u => by
    unfold State.outletCommand
    split
    · rfl
    · split
      · exact h _ _
      · rfl

theorem revises_load {α : Type} {code : Byte} {len : Nat} {rec : Record} {params : Option α}
    {write : State → α → State} (h : ∀ u p, (write u p).table = u.table) :
    AnswerRevises s (portCommand code len rec s fun u => u.load code params write) :=
  revises_portCommand fun u => by
    rcases u.load_cases code params write with ⟨-, e⟩ | ⟨-, -, e⟩ | ⟨p, -, -, e⟩ <;> rw [e]
    · rfl
    · rfl
    · exact h u p

theorem execResetPinAssert_revises (s : State) : AnswerRevises s (execResetPinAssert s) := by
  rintro t ⟨⟩
  exact .of_table rfl

theorem execNoCommandTransaction_revises (bytes : List Byte) (s : State) :
    AnswerRevises s (execNoCommandTransaction bytes s) :=
  revises_leaves rfl

theorem execCutShortRecord_revises (code : Byte) (len : Byte) (given : List Byte) (s : State) :
    AnswerRevises s (execCutShortRecord code len given s) :=
  revises_leaves rfl

theorem execUnknownCommandCode_revises (code : Byte) (r : Record) (s : State) :
    AnswerRevises s (execUnknownCommandCode code r s) :=
  revises_leaves rfl

theorem execReadStatus_revises (r : Record) (s : State) : AnswerRevises s (execReadStatus r s) :=
  revises_portCommand fun _ => rfl

theorem execReadTenant_revises (r : Record) (s : State) : AnswerRevises s (execReadTenant r s) :=
  revises_portCommand fun _ => by split <;> rfl

theorem execReadOutlet_revises (r : Record) (s : State) : AnswerRevises s (execReadOutlet r s) :=
  revises_portCommand fun _ => by split <;> rfl

theorem execReadBranch_revises (r : Record) (s : State) : AnswerRevises s (execReadBranch r s) :=
  revises_portCommand fun _ => by split <;> rfl

theorem execReadContribution_revises (r : Record) (s : State) : AnswerRevises s (execReadContribution r s) :=
  revises_portCommand fun _ => rfl

theorem execSetCursor_revises (r : Record) (s : State) : AnswerRevises s (execSetCursor r s) :=
  revises_portCommand fun _ => by split <;> rfl

theorem execReadNotices_revises (r : Record) (s : State) : AnswerRevises s (execReadNotices r s) :=
  revises_portCommand fun _ => by dsimp only; split <;> rfl

theorem execLoadTenant_revises (r : Record) (s : State) : AnswerRevises s (execLoadTenant r s) :=
  revises_load fun _ _ => rfl

theorem execLoadCalibration_revises (r : Record) (s : State) : AnswerRevises s (execLoadCalibration r s) :=
  revises_load fun _ _ => rfl

theorem execLoadBranch_revises (r : Record) (s : State) : AnswerRevises s (execLoadBranch r s) :=
  revises_load fun _ _ => rfl

theorem execOutletOpen_revises (r : Record) (pins : Contacts) (s : State) :
    AnswerRevises s (execOutletOpen r pins s) :=
  revises_outletCommand fun u o => by
    split
    · rfl
    · exact u.openByStanding_table o

theorem execOutletClose_revises (r : Record) (pins : Contacts) (s : State) :
    AnswerRevises s (execOutletClose r pins s) :=
  revises_outletCommand fun u o => by
    split
    · rfl
    · exact u.closeManual_table o

theorem execRearm_revises (r : Record) (pins : Contacts) (s : State) : AnswerRevises s (execRearm r pins s) :=
  revises_outletCommand fun u o => by
    split
    · rfl
    · exact u.rearmFaulted_table o

theorem execSetBand_revises (r : Record) (s : State) : AnswerRevises s (execSetBand r s) := by
  refine revises_portCommand fun _ => ?_
  split
  · rfl
  · split <;> rfl

theorem execClearCounters_revises (r : Record) (s : State) : AnswerRevises s (execClearCounters r s) := by
  refine revises_portCommand fun u => ?_
  split
  · rfl
  · split
    · exact u.clear_table _
    · rfl

theorem execSweepTimerExpiry_revises (s : State) : AnswerRevises s (execSweepTimerExpiry s) := by
  refine revises_leaves ?_
  split
  · rfl
  · split
    · exact s.startSweep_table
    all_goals rfl

theorem execTempReadEnd_revises (result : TempResult) (s : State) : AnswerRevises s (execTempReadEnd result s) := by
  refine revises_leaves ?_
  split
  · split
    · exact s.sensorFailed_table
    · split
      · rfl
      · exact s.sensorFailed_table
  all_goals rfl

theorem execTempReadTimeout_revises (s : State) : AnswerRevises s (execTempReadTimeout s) := by
  refine revises_leaves ?_
  split
  · exact s.sensorFailed_table
  all_goals rfl

theorem execReadingReply_revises (reply : FrontEndReply) (s : State) : AnswerRevises s (execReadingReply reply s) := by
  refine revises_leaves ?_
  split
  · exact s.visit_table _
  all_goals rfl

theorem execReadingTimeout_revises (s : State) : AnswerRevises s (execReadingTimeout s) := by
  refine revises_leaves ?_
  split
  · exact s.visit_table _
  all_goals rfl

theorem execLateReply_revises (reply : FrontEndReply) (s : State) : AnswerRevises s (execLateReply reply s) := by
  rintro t ⟨⟩
  exact .refl s

theorem execSettleCountdownEnd_revises (o : OutletIx) (s : State) : AnswerRevises s (execSettleCountdownEnd o s) := by
  refine revises_leaves ?_
  split <;> rfl

theorem execTallyTimerExpiry_revises (s : State) : AnswerRevises s (execTallyTimerExpiry s) := by
  refine revises_leaves ?_
  split
  · rfl
  · have handed (u : State) : u.handTally.table = u.table := rfl
    dsimp only
    rw [handed, State.tallySlot_eq_workSlot, foldl_workSlot_table]
    rfl

theorem execEctTallyCompletion_revises (s : State) : AnswerRevises s (execEctTallyCompletion s) := by
  refine revises_leaves ?_
  split
  · rfl
  · next n rest _ =>
    exact (foldl_fixes (g := State.table) (State.accountSlot_table n) allSlots _).trans
      (foldl_fixes (g := State.table) (State.addOutletEnergy_table n) allOutlets _)

theorem execCurTallyCompletion_revises (pins : Contacts) (s : State) :
    AnswerRevises s (execCurTallyCompletion pins s) := by
  refine revises_leaves ?_
  dsimp only
  split
  · rfl
  · next n rest _ => exact foldl_fixes (g := State.table) (State.curtailSlot_table n) allSlots _

theorem execRlcTallyCompletion_revises (s : State) : AnswerRevises s (execRlcTallyCompletion s) := by
  refine revises_leaves ?_
  split
  · rfl
  · dsimp only
    split
    · exact State.sendSummaries_table _
    · rfl

theorem execBrmSweepCompletion_revises (pins : Contacts) (s : State) :
    AnswerRevises s (execBrmSweepCompletion pins s) := by
  refine revises_leaves ?_
  dsimp only
  split
  · rfl
  · exact foldl_fixes (g := State.table) State.stepBranch_table allBranches _

theorem execMismatchCheck_revises (pins : Contacts) (s : State) : AnswerRevises s (execMismatchCheck pins s) := by
  refine revises_leaves ?_
  dsimp only
  split
  · rfl
  · exact foldl_fixes (g := State.table) State.checkOutlet_table allOutlets _

theorem execAgingTimerExpiry_revises (s : State) : AnswerRevises s (execAgingTimerExpiry s) := by
  refine revises_unlessHeld ?_
  split
  · exact .refl s
  · have started : Revises s s.agingStarted := ⟨rfl, rfl, fun _ f hf => ⟨f, hf, rfl, rfl, id⟩⟩
    exact foldl_keeps (P := Revises s) (fun u i h => h.trans (u.ageEntry_revises i)) allPlaces _ started

theorem execPendingAdjustmentExpiry_revises (i : PlaceIx) (s : State) :
    AnswerRevises s (execPendingAdjustmentExpiry i s) := by
  refine revises_unlessHeld ?_
  split
  · next e he =>
    exact Revises.setEntry fun f hf => ⟨e, he, Option.mem_some.mp hf ▸ ⟨rfl, rfl, id⟩⟩
  · exact .refl s

theorem execSettleTimerExpiry_revises (k : SlotIx) (s : State) : AnswerRevises s (execSettleTimerExpiry k s) :=
  revises_leaves rfl

theorem execRetryTimerExpiry_revises (s : State) : AnswerRevises s (execRetryTimerExpiry s) := by
  refine revises_leaves ?_
  split <;> rfl

theorem execStaggerTimerExpiry_revises (pins : Contacts) (s : State) :
    AnswerRevises s (execStaggerTimerExpiry pins s) := by
  refine revises_leaves ?_
  dsimp only
  split
  · exact State.choose_table _
  · rfl

theorem execFeedbackTargetSensed_revises (pins : Contacts) (s : State) :
    AnswerRevises s (execFeedbackTargetSensed pins s) := by
  refine revises_leaves ?_
  split
  · rfl
  · dsimp only
    split
    · rfl
    · exact (State.choose_table _).trans (State.retireDone_table _ _)

theorem execCoilPulseEnd_revises (pins : Contacts) (s : State) : AnswerRevises s (execCoilPulseEnd pins s) := by
  refine revises_leaves ?_
  dsimp only
  split
  · rfl
  · split
    · rfl
    · split
      · exact (State.choose_table _).trans (State.retireDone_table _ _)
      · rfl

theorem execFeedbackWindowTimeout_revises (pins : Contacts) (s : State) :
    AnswerRevises s (execFeedbackWindowTimeout pins s) := by
  refine revises_leaves ?_
  dsimp only
  split
  · rfl
  · split
    · split
      · rfl
      · exact (State.choose_table _).trans (State.retireDone_table _ _)
    · exact (State.choose_table _).trans (State.retireTimeout_table _ _)

theorem execPulseEndAdoption_revises (o : OutletIx) (pins : Contacts) (s : State) :
    AnswerRevises s (execPulseEndAdoption o pins s) := by
  refine revises_leaves ?_
  dsimp only
  split <;> rfl

theorem execContendOnIdleLine_revises (s : State) : AnswerRevises s (execContendOnIdleLine s) := by
  refine revises_leaves ?_
  split <;> rfl

theorem execArbitrationLost_revises (s : State) : AnswerRevises s (execArbitrationLost s) := by
  refine revises_leaves ?_
  split <;> rfl

theorem execTransmitSuccess_revises (s : State) : AnswerRevises s (execTransmitSuccess s) := by
  refine revises_leaves ?_
  split
  · rfl
  · dsimp only
    split <;> rfl

theorem execTransmitFailure_revises (s : State) : AnswerRevises s (execTransmitFailure s) := by
  refine revises_leaves ?_
  split
  · rfl
  · dsimp only
    split <;> rfl

theorem execCtbNote_revises (s : State) : AnswerRevises s (execCtbNote s) := by
  refine revises_unlessHeld ?_
  split
  · exact .refl s
  · next n rest _ =>
    have taken : Revises s (s.ctbNoteTaken rest) := ⟨rfl, rfl, fun _ f hf => ⟨f, hf, rfl, rfl, id⟩⟩
    exact taken.trans (State.applyNote_revises _ n)

theorem execCurNote_revises (s : State) : AnswerRevises s (execCurNote s) := by
  refine revises_leaves ?_
  split
  · rfl
  · dsimp only
    split <;> rfl

/-! ### Every command within a phase -/

/-- The commands within a phase that may bring a key, the station's ID or a coverage that was not there. -/
def Instr.BringsKeys : Instr → Prop
  | .loadStation _ | .loadFixed _ | .frameReceived _ => True
  | _ => False

/-- Every other command within a phase revises the entries in place or leaves them. -/
theorem exec_revises (c : Instr) (hc : ¬ Instr.ChangesPhaseOrRank c) (hk : ¬ Instr.BringsKeys c) :
    AnswerRevises s (exec c s) := by
  cases c with
  | powerOn => exact absurd trivial hc
  | resetPinAssert => exact execResetPinAssert_revises s
  | resetPinRelease => exact absurd trivial hc
  | noCommandTransaction bytes => exact execNoCommandTransaction_revises bytes s
  | cutShortRecord code len given => exact execCutShortRecord_revises code len given s
  | unknownCommandCode code r => exact execUnknownCommandCode_revises code r s
  | readStatus r => exact execReadStatus_revises r s
  | readTenant r => exact execReadTenant_revises r s
  | readOutlet r => exact execReadOutlet_revises r s
  | readBranch r => exact execReadBranch_revises r s
  | readContribution r => exact execReadContribution_revises r s
  | setCursor r => exact execSetCursor_revises r s
  | readNotices r => exact execReadNotices_revises r s
  | loadStation r => exact absurd trivial hk
  | loadTenant r => exact execLoadTenant_revises r s
  | loadOutlet r => exact absurd trivial hc
  | loadCalibration r => exact execLoadCalibration_revises r s
  | loadBranch r => exact execLoadBranch_revises r s
  | loadFixed r => exact absurd trivial hk
  | start r pins => exact absurd trivial hc
  | restart r => exact absurd trivial hc
  | outletOpen r pins => exact execOutletOpen_revises r pins s
  | outletClose r pins => exact execOutletClose_revises r pins s
  | rearm r pins => exact execRearm_revises r pins s
  | setBand r => exact execSetBand_revises r s
  | clearCounters r => exact execClearCounters_revises r s
  | sweepTimerExpiry => exact execSweepTimerExpiry_revises s
  | tempReadEnd result => exact execTempReadEnd_revises result s
  | tempReadTimeout => exact execTempReadTimeout_revises s
  | readingReply reply => exact execReadingReply_revises reply s
  | readingTimeout => exact execReadingTimeout_revises s
  | lateReply reply => exact execLateReply_revises reply s
  | settleCountdownEnd o => exact execSettleCountdownEnd_revises o s
  | enterRun => exact absurd trivial hc
  | tallyTimerExpiry => exact execTallyTimerExpiry_revises s
  | ectTallyCompletion => exact execEctTallyCompletion_revises s
  | curTallyCompletion pins => exact execCurTallyCompletion_revises pins s
  | rlcTallyCompletion => exact execRlcTallyCompletion_revises s
  | brmSweepCompletion pins => exact execBrmSweepCompletion_revises pins s
  | mismatchCheck pins => exact execMismatchCheck_revises pins s
  | agingTimerExpiry => exact execAgingTimerExpiry_revises s
  | pendingAdjustmentExpiry i => exact execPendingAdjustmentExpiry_revises i s
  | settleTimerExpiry k => exact execSettleTimerExpiry_revises k s
  | retryTimerExpiry => exact execRetryTimerExpiry_revises s
  | staggerTimerExpiry pins => exact execStaggerTimerExpiry_revises pins s
  | feedbackTargetSensed pins => exact execFeedbackTargetSensed_revises pins s
  | coilPulseEnd pins => exact execCoilPulseEnd_revises pins s
  | feedbackWindowTimeout pins => exact execFeedbackWindowTimeout_revises pins s
  | pulseEndAdoption o pins => exact execPulseEndAdoption_revises o pins s
  | contendOnIdleLine => exact execContendOnIdleLine_revises s
  | arbitrationLost => exact execArbitrationLost_revises s
  | transmitSuccess => exact execTransmitSuccess_revises s
  | transmitFailure => exact execTransmitFailure_revises s
  | frameReceived frame => exact absurd trivial hk
  | ctbNote => exact execCtbNote_revises s
  | curNote => exact execCurNote_revises s

end Sys2Proof.Machine
end

section
/-! The Contribution Table through every step (O59): the commands that bring keys, the changes of phase, and every
step. -/

namespace Sys2Proof.Machine

open Sys2Proof.Safety

variable {s t : State}

/-! ### Commands that bring keys -/

theorem tableHolds_portCommand {code : Byte} {len : Nat} {rec : Record} {work : State → State} (p : TableHolds s)
    (h : ∀ u, TableHolds u → TableHolds (work u)) (ht : portCommand code len rec s work = .next t) :
    TableHolds t := by
  cases ht
  split
  · exact p
  · dsimp only
    split
    · exact h _ p
    · exact p

theorem tableHolds_reply (h : TableHolds s) (code : Byte) (st : Status) (d : List Byte) :
    TableHolds (s.reply code st d) := h

/-- A load is taken in CONFIG alone, where the table is empty. -/
theorem tableHolds_load {α : Type} {code : Byte} {params : Option α} {write : State → α → State} (p : TableHolds s)
    (rlc : ∀ q, (write s q).rlc = s.rlc) (dyn : ∀ q, (write s q).ctb.dyn = s.ctb.dyn) :
    TableHolds (s.load code params write) := by
  rcases s.load_cases code params write with ⟨-, e⟩ | ⟨-, -, e⟩ | ⟨q, config, -, e⟩ <;> rw [e]
  · exact p
  · exact p
  · obtain ⟨off, empty⟩ := p.1 config
    have kept (i : PlaceIx) : (write s q).entry i = s.entry i := by rw [State.entry, dyn, State.entry]
    exact tableHolds_reply (tableHolds_of_empty ((congrArg Rlc.link (rlc q)).trans off) fun i =>
      (kept i).trans (empty i)) _ _ _

theorem State.handFrame_entriesStand (p : s.EntriesStand) (station : Nat) (c : FrameContent) :
    (s.handFrame station c).EntriesStand := by
  unfold State.handFrame
  split
  · split
    · exact p
    · exact ⟨p.keys, p.each⟩
  · next other =>
    split
    · exact p
    · exact p.learnSummary other _ _
    · split
      · exact p
      · exact ⟨p.keys, p.each⟩

/-- A frame is read only on a link that is not OFF, so not in CONFIG. -/
theorem execFrameReceived_tableHolds (p : TableHolds s) (f : LineFrame) (h : execFrameReceived f s = .next t) :
    TableHolds t := by
  have phase := (execFrameReceived_answers f s t h).phase
  obtain ⟨inConfig, stand⟩ := (tableHolds_iff s).mp p
  cases h
  split
  · exact p
  · next free =>
    rw [if_neg free] at phase
    dsimp only at phase ⊢
    split
    · exact p
    · next on =>
      rw [if_neg on] at phase
      refine (tableHolds_iff _).mpr ⟨fun config => absurd (inConfig (phase ▸ config)).1 on, ?_⟩
      split
      · exact stand
      · split
        · exact ⟨stand.keys, stand.each⟩
        · split
          · exact ⟨stand.keys, stand.each⟩
          · exact State.handFrame_entriesStand stand _ _

theorem execLoadStation_tableHolds (p : TableHolds s) (rec : Record) (h : execLoadStation rec s = .next t) :
    TableHolds t :=
  tableHolds_portCommand p (fun _ pu => tableHolds_load pu (fun _ => rfl) fun _ => rfl) h

theorem execLoadFixed_tableHolds (p : TableHolds s) (rec : Record) (h : execLoadFixed rec s = .next t) :
    TableHolds t :=
  tableHolds_portCommand p (fun _ pu => tableHolds_load pu (fun _ => rfl) fun _ => rfl) h

/-! ### Changes of phase -/

theorem State.poweredOn_tableHolds (s : State) (held : Bool) : TableHolds (s.poweredOn held) :=
  tableHolds_of_empty (s := s.poweredOn held) rfl State.reset_entry

theorem State.restarted_tableHolds (s : State) : TableHolds s.restarted := by
  have link : s.restarted.rlc = Rlc.reset := State.leavePulse_rlc _ _
  have dyn : s.restarted.ctb.dyn = Ctb.reset.dyn := by
    rw [State.restarted_eq]
    unfold State.leavePulse
    split
    · split <;> rfl
    · rfl
  refine tableHolds_of_empty (congrArg Rlc.link link) fun i => ?_
  rw [State.entry, dyn]
  exact State.reset_entry i

/-- Entries that stand outside CONFIG are all that the table's rules ask. -/
theorem tableHolds_of_notConfig (stand : s.EntriesStand) (phase : s.mpt.phase ≠ .config) : TableHolds s :=
  (tableHolds_iff s).mpr ⟨fun config => absurd config phase, stand⟩

theorem State.enterWarmup_tableHolds (p : TableHolds s) : TableHolds s.enterWarmup := by
  obtain ⟨v, -, entered⟩ := s.enterWarmup_eq
  have stand := ((tableHolds_iff s).mp p).2
  rw [entered]
  exact tableHolds_of_notConfig ⟨stand.keys, stand.each⟩ nofun

theorem execStart_tableHolds (p : TableHolds s) (rec : Record) (pins : Contacts) (h : execStart rec pins s = .next t) :
    TableHolds t := by
  refine tableHolds_portCommand p (fun u pu => ?_) h
  split
  · exact pu
  · split
    · exact pu
    · have presented : TableHolds (u.withPins pins) := pu
      exact tableHolds_reply (State.enterWarmup_tableHolds presented) _ _ _

theorem execEnterRun_tableHolds (p : TableHolds s) (h : exec .enterRun s = .next t) : TableHolds t := by
  cases held : s.resetHeld with
  | true =>
    obtain rfl := Host.Outcome.next.inj (h.symm.trans (unlessHeld_held held _))
    exact p
  | false =>
    by_cases warm : s.mpt.phase = .warmup ∧ s.osu.warmup = 8
    · obtain ⟨slots, nq, entered⟩ :=
        foldl_workSlot_frame State.runRecord allSlots { s with mpt := { s.mpt with phase := .run } }
      rw [← State.enterSlot_eq_workSlot] at entered
      obtain rfl := Host.Outcome.next.inj (h.symm.trans (exec_enterRun held warm entered))
      have stand := ((tableHolds_iff s).mp p).2
      exact tableHolds_of_notConfig ⟨stand.keys, stand.each⟩ nofun
    · obtain rfl := Host.Outcome.next.inj (h.symm.trans (exec_enterRun_early held warm))
      exact p

theorem execLoadOutlet_tableHolds (p : TableHolds s) (rec : Record) (h : execLoadOutlet rec s = .next t) :
    TableHolds t := by
  refine tableHolds_portCommand p (fun u pu => ?_) h
  rcases u.load_cases 18 (outletParams rec) _ with ⟨-, e⟩ | ⟨-, -, e⟩ | ⟨q, -, -, e⟩ <;> rw [e] <;> exact pu

/-! ### Every step -/

theorem exec_tableHolds (c : Instr) (p : TableHolds s) (h : exec c s = .next t) : TableHolds t := by
  by_cases hc : Instr.ChangesPhaseOrRank c
  · unfold Instr.ChangesPhaseOrRank at hc
    split at hc
    · cases h
      exact s.poweredOn_tableHolds _
    · cases h
      exact s.poweredOn_tableHolds _
    · exact execStart_tableHolds p _ _ h
    · exact tableHolds_portCommand p (fun u _ => u.restarted_tableHolds) h
    · exact execEnterRun_tableHolds p h
    · exact execLoadOutlet_tableHolds p _ h
    · exact hc.elim
  · by_cases hk : Instr.BringsKeys c
    · unfold Instr.BringsKeys at hk
      split at hk
      · exact execLoadStation_tableHolds p _ h
      · exact execLoadFixed_tableHolds p _ h
      · exact execFrameReceived_tableHolds p _ h
      · exact hk.elim
    · have phase := (exec_answers c hc s t h).phase
      exact tableHolds_of_revises p (exec_revises c hc hk t h) fun config =>
        ⟨phase ▸ config, (exec_linkWorks c hc t h).off⟩

theorem State.idle_tableHolds (p : TableHolds s) : TableHolds s.idle := by
  refine tableHolds_of_revises p s.idle_revises fun config => ⟨(Works.idle s).phase ▸ config, fun off => ?_⟩
  unfold State.idle
  split
  · exact off
  · exact off

/-- Settles O59: within a phase entries are revised in place, or learned under a key that no other place has; a load and
a change of phase begin from an empty table or leave the entries as they stand. -/
theorem stepKeepsContributionTable : Obligations.StepKeepsContributionTable := by
  intro s t h p
  unfold step at h
  split at h
  · cases h
    exact State.idle_tableHolds p
  · next c rest _ =>
    have taken : TableHolds { s with pending := rest } := p
    exact exec_tableHolds c taken h

end Sys2Proof.Machine
end

section
/-! Curtailment at a tally completion: the own candidates, and each slot's turn before its election. -/

namespace Sys2Proof.Machine

open Sys2Proof.Safety Sys2Proof.Claims

variable {s : State} {k : SlotIx}

/-! ### The own candidates -/

/-- Settles O35: each choice is `pick`'s among the outlets that meet the conditions. -/
theorem ownCandidatesAreChosenByRank : Obligations.OwnCandidatesAreChosenByRank := fun _ _ =>
  ⟨fun _ => State.ownShed_eq_some_iff, State.ownShed_eq_none_iff,
    fun _ => State.ownRestore_eq_some_iff, State.ownRestore_eq_none_iff⟩

/-! ### The completion -/

theorem exec_curTallyCompletion_none (held : s.resetHeld = false) (none : s.cur.tallies = []) (pins : Contacts) :
    exec (.curTallyCompletion pins) s = .next { s with contacts := pins } := by
  rw [exec, execCurTallyCompletion, unlessHeld_free held]
  simp only [State.withPins_cur, none]
  rfl

theorem exec_curTallyCompletion (held : s.resetHeld = false) {n : Nat} {rest : List Nat}
    (waits : s.cur.tallies = n :: rest) (pins : Contacts) :
    exec (.curTallyCompletion pins) s = .next
      (allSlots.foldl (State.curtailSlot n)
        { s with contacts := pins, cur := { s.cur with tallies := rest } }) := by
  rw [exec, execCurTallyCompletion, unlessHeld_free held]
  simp only [State.withPins_cur, waits]
  rfl

/-! ### A slot's turn -/

theorem curtailSlot_of_passedOver (passed : s.inUse k = false ∨ (s.slot k).state = .uncontracted) (n : Nat) :
    s.curtailSlot n k = s := by
  unfold State.curtailSlot
  rcases passed with free | uncontracted
  · simp [free]
  · simp [uncontracted]

/-- Step 2 of R101 on a slot with its settle timer running, or in a state other than RECOVERY, clears the hold counter. -/
theorem setCurSlot_refresh (h : (s.curSlot k).settle ≠ none ∨ (s.slot k).state ≠ .recovery) :
    s.setCurSlot k ((s.curSlot k).refresh (s.slot k).state) =
      withItems s k (s.curSlot k).settle 0
        ((s.curSlot k).uncurtailable && decide ((s.slot k).state = .overdrawn)) := by
  have cleared : ¬ ((s.slot k).state = .recovery ∧ (s.curSlot k).settle.isNone) := by
    rintro ⟨recovery, stopped⟩
    rcases h with running | other
    · exact running (Option.isNone_iff_eq_none.mp stopped)
    · exact other recovery
  rw [CurSlot.refresh, if_neg cleared, beq_eq_decide]
  rfl

@[simp] theorem withItems_settle (s : State) (k : SlotIx) (settle : Timer) (hold : Nat) (flag : Bool) :
    ((withItems s k settle hold flag).curSlot k).settle = settle :=
  congrArg CurSlot.settle (withSlotItems_curSlot _ _ _)

/-- With the settle timer running a slot's turn ends with step 2 of R101. -/
theorem curtailSlot_of_settling (hu : s.inUse k = true) (hs : (s.slot k).state ≠ .uncontracted)
    (running : (s.curSlot k).settle ≠ none) (n : Nat) :
    s.curtailSlot n k = withItems s k (s.curSlot k).settle 0
      ((s.curSlot k).uncurtailable && decide ((s.slot k).state = .overdrawn)) := by
  have started : (s.curSlot k).settle.isSome = true := Option.isSome_iff_ne_none.mpr running
  unfold State.curtailSlot
  dsimp only
  rw [setCurSlot_refresh (.inl running)]
  simp [hu, hs, started]

/-- A slot that is neither OVER nor in RECOVERY has no election. -/
theorem curtailSlot_of_quiet (hu : s.inUse k = true)
    (quiet : (s.slot k).state = .within ∨ (s.slot k).state = .burst ∨ (s.slot k).state = .idle)
    (stopped : (s.curSlot k).settle = none) (n : Nat) : s.curtailSlot n k = withItems s k none 0 false := by
  have other : (s.slot k).state ≠ .recovery := by rcases quiet with h | h | h <;> simp [h]
  unfold State.curtailSlot
  dsimp only
  rw [setCurSlot_refresh (.inr other)]
  rcases quiet with h | h | h
  · simp [hu, h, stopped]
  · simp [hu, h, stopped]
  · simp [hu, h, stopped]

/-- Settles O36: the completion's two cases, then a slot's turn by its standing. -/
theorem curtailmentWorksSlotsInOrder : Obligations.CurtailmentWorksSlotsInOrder :=
  ⟨fun _ pins held =>
    ⟨fun none => exec_curTallyCompletion_none held none pins,
      fun _ _ waits => exec_curTallyCompletion held waits pins⟩,
    fun _ _ n =>
      ⟨fun passed => curtailSlot_of_passedOver passed n,
        fun hu hs running => curtailSlot_of_settling hu hs running n,
        fun hu quiet stopped => curtailSlot_of_quiet hu quiet stopped n⟩⟩

end Sys2Proof.Machine
end

section
/-! What every step keeps of the Relay Sequencer (R130, R132, R133, R144): its rules by their parts, and one rule for
each change of the lanes and of the place in flight. -/

namespace Sys2Proof.Machine

open Sys2Proof.Safety

variable {s : State} {q p : Rsq} {act : OutletIx → Actuator} {a : Action} {o : OutletIx}

/-! ### The rules by their parts -/

/-- The branch-origin actions held for a branch's outlets (R130). -/
def Rsq.branchHeld (q : Rsq) (b : BranchIx) : List Action :=
  q.held.filter fun a => a.origin == .branch && branchOf a.outlet == b

/-- BranchLaw by its parts, for a sequencer and the outlets' actuators. -/
structure Rsq.Stands (q : Rsq) (act : OutletIx → Actuator) : Prop where
  distinct : (q.held.map (·.outlet)).Nodup
  urgentRoom : q.urgent.length ≤ 8
  standardRoom : q.standard.length ≤ 32
  urgentLane : ∀ a ∈ q.urgent, a.lane = .urgent
  standardLane : ∀ a ∈ q.standard, a.lane = .standard
  enabled : ∀ f ∈ q.inFlight, act f.action.outlet = .enabled
  drives : ∀ f ∈ q.inFlight, f.action.kind ≠ .rearm
  branches : ∀ b, (q.branchHeld b).length ≤ 1

/-- The actuators of a state's outlets. -/
def State.actuators (s : State) (o : OutletIx) : Actuator := (s.outlet o).actuator

theorem branchLaw_iff (s : State) : BranchLaw s ↔ s.rsq.Stands s.actuators :=
  ⟨fun ⟨⟨d, u, t, ul, tl, f⟩, b⟩ => ⟨d, u, t, ul, tl, fun g hg => (f g hg).1, fun g hg => (f g hg).2, b⟩,
    fun h => ⟨⟨h.distinct, h.urgentRoom, h.standardRoom, h.urgentLane, h.standardLane,
      fun g hg => ⟨h.enabled g hg, h.drives g hg⟩⟩, h.branches⟩⟩

theorem Rsq.Stands.reset : Rsq.reset.Stands act := by
  constructor <;> simp [Rsq.reset, Rsq.held, Rsq.branchHeld]

/-! ### Actions leave -/

/-- Actions leave the lanes or the place in flight, and those that stay keep their order. -/
theorem Rsq.Stands.thin (h : q.Stands act) (urgent : p.urgent.Sublist q.urgent)
    (standard : p.standard.Sublist q.standard) (flight : p.inFlight = none ∨ p.inFlight = q.inFlight) :
    p.Stands act := by
  have place : (p.inFlight.map (·.action)).toList.Sublist (q.inFlight.map (·.action)).toList := by
    rcases flight with e | e
    · rw [e]
      exact List.nil_sublist _
    · rw [e]
  have held : p.held.Sublist q.held := (place.append urgent).append standard
  have flying : ∀ f ∈ p.inFlight, f ∈ q.inFlight := fun f hf => by
    rcases flight with e | e <;> rw [e] at hf
    · cases hf
    · exact hf
  exact
    { distinct := (held.map _).nodup h.distinct
      urgentRoom := urgent.length_le.trans h.urgentRoom
      standardRoom := standard.length_le.trans h.standardRoom
      urgentLane := fun a ha => h.urgentLane a (urgent.subset ha)
      standardLane := fun a ha => h.standardLane a (standard.subset ha)
      enabled := fun f hf => h.enabled f (flying f hf)
      drives := fun f hf => h.drives f (flying f hf)
      branches := fun b => (held.filter _).length_le.trans (h.branches b) }

theorem Rsq.Stands.remove (h : q.Stands act) (o : OutletIx) : (q.remove o).Stands act :=
  h.thin List.filter_sublist List.filter_sublist (.inr rfl)

theorem Rsq.Stands.clearInFlight (h : q.Stands act) : ({ q with inFlight := none } : Rsq).Stands act :=
  h.thin (.refl _) (.refl _) (.inl rfl)

/-- The timers and counts of the sequencer, and of the action in flight, are in no rule. -/
theorem Rsq.Stands.sameActions (h : q.Stands act) (urgent : p.urgent = q.urgent) (standard : p.standard = q.standard)
    (flight : p.inFlight.map (·.action) = q.inFlight.map (·.action)) : p.Stands act := by
  have held : p.held = q.held := by rw [Rsq.held, urgent, standard, flight, Rsq.held]
  have flying : ∀ f ∈ p.inFlight, ∃ g ∈ q.inFlight, g.action = f.action := fun f hf =>
    Option.map_eq_some_iff.mp (flight ▸ Option.map_eq_some_iff.mpr ⟨f, hf, rfl⟩)
  exact
    { distinct := held ▸ h.distinct
      urgentRoom := urgent ▸ h.urgentRoom
      standardRoom := standard ▸ h.standardRoom
      urgentLane := urgent ▸ h.urgentLane
      standardLane := standard ▸ h.standardLane
      enabled := fun f hf => by
        obtain ⟨g, hg, e⟩ := flying f hf
        exact e ▸ h.enabled g hg
      drives := fun f hf => by
        obtain ⟨g, hg, e⟩ := flying f hf
        exact e ▸ h.drives g hg
      branches := fun b => by rw [Rsq.branchHeld, held]; exact h.branches b }

/-- Actuators may change, but not of the outlet in flight to FAULTED (R144). -/
theorem Rsq.Stands.setActuators (h : q.Stands act) {act' : OutletIx → Actuator}
    (enabled : ∀ f ∈ q.inFlight, act' f.action.outlet = .enabled) : q.Stands act' :=
  { h with enabled := enabled }

/-! ### An action joins -/

/-- An action joins for an outlet that has none: its lane has room, and no other branch action of its branch is held. -/
theorem Rsq.Stands.append (h : q.Stands act) (free : ∀ c ∈ q.held, c.outlet ≠ a.outlet)
    (room : (q.lane a.lane).length < a.lane.capacity)
    (alone : a.origin = .branch → q.branchHeld (branchOf a.outlet) = []) : (q.append a).Stands act := by
  have held : (q.append a).held.Perm (a :: q.held) := by
    unfold Rsq.append
    split
    · simp only [Rsq.held, List.append_assoc, List.singleton_append]
      rw [← List.append_assoc, ← List.append_assoc]
      exact List.perm_middle
    · simp only [Rsq.held, ← List.append_assoc]
      exact List.perm_append_singleton _ _
  have flight : (q.append a).inFlight = q.inFlight := by
    unfold Rsq.append
    split <;> rfl
  have distinct : ((q.append a).held.map (·.outlet)).Nodup := by
    refine ((held.map _).nodup_iff).mpr (List.nodup_cons.mpr ⟨fun hm => ?_, h.distinct⟩)
    obtain ⟨c, hc, e⟩ := List.mem_map.mp hm
    exact free c hc e
  have branches : ∀ b, ((q.append a).branchHeld b).length ≤ 1 := fun b => by
    rw [Rsq.branchHeld, (held.filter _).length_eq, List.filter_cons]
    split
    · next own =>
      simp only [Bool.and_eq_true, beq_iff_eq] at own
      obtain ⟨origin, rfl⟩ := own
      have none := alone origin
      rw [Rsq.branchHeld] at none
      rw [none]
      exact Nat.le_refl 1
    · exact h.branches b
  cases hl : a.lane with
  | urgent =>
    rw [hl] at room
    have e := q.append_urgent hl
    rw [e] at distinct branches ⊢
    refine { h with distinct, branches, urgentRoom := ?_, urgentLane := fun c hc => ?_ }
    · rw [List.length_append]
      exact room
    · rcases List.mem_append.mp hc with hc | hc
      · exact h.urgentLane c hc
      · exact List.mem_singleton.mp hc ▸ hl
  | standard =>
    rw [hl] at room
    have e := q.append_standard hl
    rw [e] at distinct branches ⊢
    refine { h with distinct, branches, standardRoom := ?_, standardLane := fun c hc => ?_ }
    · rw [List.length_append]
      exact room
    · rcases List.mem_append.mp hc with hc | hc
      · exact h.standardLane c hc
      · exact List.mem_singleton.mp hc ▸ hl

/-- The lane an action is found in is its own. -/
theorem Rsq.Stands.mem_lane (h : q.Stands act) (ha : a ∈ q.urgent ∨ a ∈ q.standard) : a ∈ q.lane a.lane := by
  rcases ha with ha | ha
  · rwa [h.urgentLane a ha]
  · rwa [h.standardLane a ha]

theorem Rsq.remove_lane (q : Rsq) (o : OutletIx) (l : Lane) :
    (q.remove o).lane l = (q.lane l).filter fun a => a.outlet != o := by cases l <;> rfl

/-- Room that counts the queued action a request retires is room once that action has left (R133). -/
theorem Rsq.Stands.room_remove (h : q.Stands act) {l : Lane} (room : q.hasRoom l (q.queuedFor o) = true) :
    ((q.remove o).lane l).length < l.capacity := by
  rw [Rsq.remove_lane]
  have fewer := List.length_filter_le (fun a : Action => a.outlet != o) (q.lane l)
  cases hq : q.queuedFor o with
  | none =>
    rw [hq] at room
    exact fewer.trans_lt (of_decide_eq_true room)
  | some b =>
    obtain ⟨outlet, queued⟩ := Rsq.queuedFor_some hq
    rw [hq] at room
    have counted : (q.lane l).length < l.capacity + if b.lane = l then 1 else 0 := of_decide_eq_true room
    split at counted
    · next own =>
      have retired : ((q.lane l).filter fun a => a.outlet != o).length < (q.lane l).length :=
        List.length_filter_lt_length_iff_exists.mpr ⟨b, own ▸ h.mem_lane queued, by simp [outlet]⟩
      omega
    · exact fewer.trans_lt counted

/-- Once the queued actions of an outlet have left, none is held for it but one in flight. -/
theorem Rsq.free_remove (flight : q.inFlightFor o = none) : ∀ c ∈ (q.remove o).held, c.outlet ≠ o := by
  intro c hc e
  simp only [Rsq.held, Rsq.remove, List.mem_append, Option.mem_toList, Option.map_eq_some_iff, List.mem_filter,
    bne_iff_ne] at hc
  rcases hc with (⟨f, hf, rfl⟩ | ⟨-, other⟩) | ⟨-, other⟩
  · simp [Rsq.inFlightFor, hf, e] at flight
  · exact other e
  · exact other e

/-- An accepted request: the queued action of its outlet leaves, and the new one joins (R133, R134). -/
theorem Rsq.Stands.join (h : q.Stands act) (flight : q.inFlightFor a.outlet = none)
    (room : q.hasRoom a.lane (q.queuedFor a.outlet) = true)
    (alone : a.origin = .branch → q.branchHeld (branchOf a.outlet) = []) :
    ((q.remove a.outlet).append a).Stands act := by
  refine (h.remove a.outlet).append (Rsq.free_remove flight) (h.room_remove room) fun origin => ?_
  refine List.filter_eq_nil_iff.mpr fun c hc => ?_
  exact List.filter_eq_nil_iff.mp (alone origin) c (Rsq.mem_held_remove hc)

/-! ### The head of a lane is taken -/

/-- Steps 1 and 2 of the choice (R136): the head of the urgent lane, or with that empty the head of the
standard lane. -/
theorem State.takeNext_cases (h : s.takeNext = some (a, p)) :
    (∃ rest, s.rsq.urgent = a :: rest ∧ p = { s.rsq with urgent := rest }) ∨
    ∃ rest, s.rsq.urgent = [] ∧ s.rsq.standard = a :: rest ∧ p = { s.rsq with standard := rest } := by
  unfold State.takeNext at h
  split at h
  · next c rest hu =>
    obtain ⟨rfl, rfl⟩ := Prod.mk.inj (Option.some.inj h)
    exact .inl ⟨rest, hu, rfl⟩
  · next c rest hu hs =>
    split at h
    · cases h
    · obtain ⟨rfl, rfl⟩ := Prod.mk.inj (Option.some.inj h)
      exact .inr ⟨rest, hu, hs, rfl⟩
  · cases h

/-- What the choice takes leaves the rest standing. -/
theorem Rsq.Stands.taken (h : s.rsq.Stands act) (taken : s.takeNext = some (a, p)) : p.Stands act := by
  rcases State.takeNext_cases taken with ⟨rest, hu, rfl⟩ | ⟨rest, -, hs, rfl⟩
  · exact h.thin (hu ▸ List.sublist_cons_self a rest) (.refl _) (.inr rfl)
  · exact h.thin (.refl _) (hs ▸ List.sublist_cons_self a rest) (.inr rfl)

/-- With nothing in flight, an action taken and started is held as it was in its lane (R138). -/
theorem Rsq.Stands.started (h : s.rsq.Stands act) (idle : s.rsq.inFlight = none) (taken : s.takeNext = some (a, p))
    (enabled : act a.outlet = .enabled) (drives : a.kind ≠ .rearm) {f : InFlight} (hf : f.action = a) :
    ({ p with inFlight := some f } : Rsq).Stands act := by
  have held : ({ p with inFlight := some f } : Rsq).held = s.rsq.held := by
    rcases State.takeNext_cases taken with ⟨rest, hu, rfl⟩ | ⟨rest, hu, hs, rfl⟩
    · simp [Rsq.held, hf, idle, hu]
    · simp [Rsq.held, hf, idle, hu, hs]
  have rest := h.taken taken
  exact { rest with
    distinct := held ▸ h.distinct
    enabled := fun g hg => by rw [← Option.some.inj hg, hf]; exact enabled
    drives := fun g hg => by rw [← Option.some.inj hg, hf]; exact drives
    branches := fun b => by rw [Rsq.branchHeld, held]; exact h.branches b }

end Sys2Proof.Machine
end

section
/-! The rules of BranchLaw for the operations of the Relay Sequencer and of those that ask it for actions. -/

namespace Sys2Proof.Machine

open Sys2Proof.Safety Sys2Proof.Claims

variable {s : State} {a : Action} {o : OutletIx} {b : BranchIx}

/-! ### What the law does not read -/

theorem branchLaw_raiseAt (h : BranchLaw s) (n : Nat) (body : NoticeBody) : BranchLaw (s.raiseAt n body) := h

theorem branchLaw_reply (h : BranchLaw s) (code : Byte) (st : Status) (d : List Byte) :
    BranchLaw (s.reply code st d) := h

theorem branchLaw_setBranch (h : BranchLaw s) (b : BranchIx) (x : Branch) : BranchLaw (s.setBranch b x) := h

theorem branchLaw_setCurSlot (h : BranchLaw s) (k : SlotIx) (x : CurSlot) : BranchLaw (s.setCurSlot k x) := h

/-! ### Outlet records -/

/-- A record whose outlet is in flight must be of an ENABLED outlet (R144). -/
theorem branchLaw_setOutlet (h : BranchLaw s) {x : Outlet}
    (enabled : ∀ f ∈ s.rsq.inFlight, f.action.outlet = o → x.actuator = .enabled) :
    BranchLaw (s.setOutlet o x) := by
  have stands := (branchLaw_iff s).mp h
  refine (branchLaw_iff _).mpr (stands.setActuators fun f hf => ?_)
  rw [State.actuators, State.outlet_setOutlet]
  split
  · next here => exact enabled f hf here.symm
  · exact stands.enabled f hf

theorem branchLaw_setOutlet_same (h : BranchLaw s) {x : Outlet} (same : x.actuator = (s.outlet o).actuator) :
    BranchLaw (s.setOutlet o x) :=
  branchLaw_setOutlet h fun f hf here => same.trans (here ▸ ((branchLaw_iff s).mp h).enabled f hf)

theorem branchLaw_setOutlet_idle (h : BranchLaw s) (idle : s.rsq.inFlightFor o = none) (x : Outlet) :
    BranchLaw (s.setOutlet o x) :=
  branchLaw_setOutlet h fun f hf here => by
    have flying : s.rsq.inFlight = some f := hf
    simp [Rsq.inFlightFor, flying, here] at idle

/-- Every record rewritten, the actuators as they were. -/
theorem branchLaw_mapOutlets (h : BranchLaw s) {f : Outlet → Outlet} (same : ∀ x, (f x).actuator = x.actuator) :
    BranchLaw { s with outlets := mapVec f s.outlets } := by
  have stands := (branchLaw_iff s).mp h
  refine (branchLaw_iff _).mpr (stands.setActuators fun g hg => ?_)
  rw [State.actuators, State.outlet, getElem_mapVec, same]
  exact stands.enabled g hg

@[simp] theorem Outlet.clearClosing_actuator (x : Outlet) : x.clearClosing.actuator = x.actuator := by
  unfold Outlet.clearClosing
  split <;> rfl

@[simp] theorem Outlet.adopt_actuator (x : Outlet) (p : Position) : (x.adopt p).actuator = .enabled := by
  cases p <;> rfl

theorem branchLaw_adopt (h : BranchLaw s) {x : Outlet} (p : Position) : BranchLaw (s.setOutlet o (x.adopt p)) :=
  branchLaw_setOutlet h fun _ _ _ => x.adopt_actuator p

/-! ### Lanes -/

/-- The sequencer replaced by one that stands with the same actuators. -/
theorem branchLaw_setRsq (h : BranchLaw s) {q : Rsq} (keeps : s.rsq.Stands s.actuators → q.Stands s.actuators) :
    BranchLaw { s with rsq := q } :=
  (branchLaw_iff _).mpr (keeps ((branchLaw_iff s).mp h))

theorem branchLaw_clearInFlight (h : BranchLaw s) : BranchLaw s.clearInFlight :=
  branchLaw_setRsq h Rsq.Stands.clearInFlight

/-- The record of the action in flight rewritten, the action kept. -/
theorem branchLaw_setInFlight (h : BranchLaw s) {f g : InFlight} (hf : s.rsq.inFlight = some f)
    (same : g.action = f.action) : BranchLaw { s with rsq := { s.rsq with inFlight := some g } } :=
  branchLaw_setRsq h fun stands => stands.sameActions rfl rfl (by simp [hf, same])

theorem branchLaw_startStagger (h : BranchLaw s) : BranchLaw s.startStagger := h

/-! ### Retirements and the choice -/

theorem branchLaw_staggered (h : BranchLaw s) (k : ActionKind) :
    BranchLaw (if k = .closeRelay then s.startStagger else s) := by
  split
  · exact branchLaw_startStagger h
  · exact h

theorem branchLaw_retireDone (h : BranchLaw s) (a : Action) : BranchLaw (s.retireDone a) :=
  branchLaw_staggered (branchLaw_setOutlet_idle (branchLaw_clearInFlight h) rfl _) a.kind

/-- An outlet goes FAULTED when its action has left the place in flight (R140). -/
theorem branchLaw_retireTimeout (h : BranchLaw s) (a : Action) : BranchLaw (s.retireTimeout a) :=
  branchLaw_staggered (branchLaw_setOutlet_idle (branchLaw_clearInFlight h) rfl _) a.kind

theorem branchLaw_retireFaulted (h : BranchLaw s) (n : Nat) (a : Action) : BranchLaw (s.retireFaulted n a) := by
  unfold State.retireFaulted
  dsimp only
  split
  · exact branchLaw_setOutlet_same h (Outlet.clearClosing_actuator _)
  · exact h

theorem branchLaw_completeRearm (h : BranchLaw s) (n : Nat) (a : Action) : BranchLaw (s.completeRearm n a) :=
  branchLaw_setOutlet h fun _ _ _ => Outlet.adopt_actuator ..

/-- The choice starts an action only with the place in flight empty, of an outlet that is not FAULTED (R136, R143). -/
theorem branchLaw_chooseUpTo (stamp n : Nat) (h : BranchLaw s) : BranchLaw (chooseUpTo stamp n s) := by
  induction n generalizing s with
  | zero => exact h
  | succ n ih =>
    unfold chooseUpTo
    split
    · exact h
    · next place =>
      have empty : s.rsq.inFlight = none := by simpa using place
      split
      · exact h
      · next a q hq =>
        have taken : BranchLaw { s with rsq := q } := branchLaw_setRsq h fun stands => stands.taken hq
        dsimp only
        split
        · exact ih (branchLaw_completeRearm taken stamp a)
        · next drives =>
          split
          · exact ih (branchLaw_retireFaulted taken stamp a)
          · next healthy =>
            have enabled : s.actuators a.outlet = .enabled := by
              cases ha : s.actuators a.outlet with
              | enabled => rfl
              | faulted => exact absurd ha healthy
            exact branchLaw_setRsq h fun stands => stands.started empty hq enabled drives rfl

theorem branchLaw_chooseAt (h : BranchLaw s) (stamp : Nat) : BranchLaw (s.chooseAt stamp) :=
  branchLaw_chooseUpTo stamp _ h

theorem branchLaw_choose (h : BranchLaw s) : BranchLaw s.choose := branchLaw_chooseAt h _

/-! ### Requests -/

/-- With no branch action pending for a branch, none is held for it (R123, R132). -/
theorem branchHeld_of_idle (h : BranchLaw s) (idle : s.branchActionPending b = false) : s.rsq.branchHeld b = [] := by
  refine List.filter_eq_nil_iff.mpr fun c hc own => ?_
  simp only [Bool.and_eq_true, beq_iff_eq] at own
  obtain ⟨origin, branch⟩ := own
  obtain ⟨inFlight, queued, -⟩ := pendingActionIsTheOneHeld s c.outlet h.1
  have pending : BranchActionFor s c.outlet := by
    rcases List.mem_append.mp hc with hc | hc
    · rcases List.mem_append.mp hc with hc | hc
      · obtain ⟨f, hf, rfl⟩ := Option.map_eq_some_iff.mp (Option.mem_toList.mp hc)
        exact ⟨_, inFlight f hf rfl, origin⟩
      · exact ⟨_, queued c (.inl hc) rfl, origin⟩
    · exact ⟨_, queued c (.inr hc) rfl, origin⟩
  have busy := State.branchActionPending_iff.mpr ⟨c.outlet, branchOf_eq_iff.mp branch, pending⟩
  simp [idle] at busy

/-- What is queued for an outlet, where nothing of it is in flight, is what is pending for it. -/
theorem State.queuedFor_of_pending (flight : s.rsq.inFlightFor o = none) :
    s.rsq.queuedFor o = (s.pendingFor o).map (·.action) := by
  simp [State.pendingFor, flight, Function.comp_def]

/-- A request is accepted for an outlet with nothing in flight, and with room in its lane (R133). -/
theorem State.requestOutcome_accepted (h : s.requestOutcome a = .accepted) :
    s.rsq.inFlightFor a.outlet = none ∧ s.rsq.hasRoom a.lane (s.rsq.queuedFor a.outlet) = true := by
  unfold State.requestOutcome at h
  split at h
  · next free =>
    obtain ⟨flight, queued⟩ := State.pendingFor_none free
    split at h
    · next room => exact ⟨flight, queued ▸ room⟩
    · cases h
  · next p hp =>
    split at h
    · cases h
    · split at h
      · cases h
      · split at h
        · cases h
        · next waits =>
          obtain ⟨c, waiting⟩ := p
          obtain rfl : waiting = false := by simpa using waits
          obtain ⟨flight, queued⟩ := State.pendingFor_queued hp
          split at h
          · next room => exact ⟨flight, queued ▸ room⟩
          · cases h

/-- An accepted request leaves the sequencer without what was queued for the outlet, and with the action (R134). -/
theorem State.enqueue_rsq (s : State) (a : Action) :
    (s.enqueue a).rsq = (s.rsq.remove a.outlet).append a := by
  cases hq : s.rsq.queuedFor a.outlet with
  | none =>
    obtain ⟨urgent, standard⟩ := Rsq.queuedFor_eq_none_iff.mp hq
    rw [State.enqueue_of_none hq, Rsq.remove, filter_outlet_eq_self urgent, filter_outlet_eq_self standard]
  | some c => rw [State.enqueue_of_queued hq]

/-- An accepted request keeps one action for its outlet; a branch's, of a branch with none pending, one for its
branch. -/
theorem branchLaw_enqueue (h : BranchLaw s) (accepted : s.requestOutcome a = .accepted)
    (alone : a.origin = .branch → s.branchActionPending (branchOf a.outlet) = false) : BranchLaw (s.enqueue a) := by
  obtain ⟨flight, room⟩ := State.requestOutcome_accepted accepted
  have joined := ((branchLaw_iff s).mp h).join flight room fun origin => branchHeld_of_idle h (alone origin)
  have outlets : (s.enqueue a).actuators = s.actuators := funext fun o => by
    rw [State.actuators, State.enqueue_outlet, State.actuators]
  exact (branchLaw_iff _).mpr (by rwa [outlets, State.enqueue_rsq])

/-! ### The mismatch check -/

/-- The check leaves an outlet in flight alone (R142). -/
theorem branchLaw_checkOutlet (h : BranchLaw s) (o : OutletIx) : BranchLaw (s.checkOutlet o) := by
  unfold State.checkOutlet
  split
  · exact h
  · next idle =>
    have idle : s.rsq.inFlightFor o = none := by simpa using idle
    dsimp only
    split
    · exact branchLaw_setOutlet_idle h idle _
    · exact branchLaw_setOutlet_idle h idle _

/-! ### Branch protection -/

theorem branchLaw_trip (h : BranchLaw s) (idle : s.branchActionPending b = false) : BranchLaw (s.trip b) := by
  unfold State.trip
  split
  · unfold State.unprotectable
    split
    · exact h
    · exact h
  · next c candidate =>
    obtain ⟨rfl, -⟩ := State.tripCandidate_mem candidate
    split
    · next accepted =>
      have joined := branchLaw_enqueue h accepted fun _ => idle
      have marked := branchLaw_setOutlet_same (o := c.outlet) joined
        (x := Outlet.opened _ .branch (s.counted c.outlet)) rfl
      exact branchLaw_choose (branchLaw_setBranch (branchLaw_raiseAt marked _ _) _ _)
    all_goals exact h

theorem branchLaw_tripTest (h : BranchLaw s) (b : BranchIx) : BranchLaw (s.tripTest b) := by
  unfold State.tripTest
  split
  · next due => exact branchLaw_trip h due.2
  · exact h

/-- A branch's restore candidate is one of its own outlets (R129). -/
theorem State.branchRestoreCandidate_mem {c : OwnCandidate} (h : s.branchRestoreCandidate b = some c) :
    branchOf c.outlet = b := by
  obtain ⟨o, ho, rfl⟩ := List.mem_map.mp (pick_mem h)
  exact mem_outletsOf.mp (List.mem_filter.mp ho).1

theorem branchLaw_branchRestoreTest (h : BranchLaw s) (b : BranchIx) : BranchLaw (s.branchRestoreTest b) := by
  unfold State.branchRestoreTest
  split
  · exact h
  · next c candidate =>
    obtain rfl := State.branchRestoreCandidate_mem candidate
    split
    · next room =>
      have idle : s.branchActionPending (branchOf c.outlet) = false := by
        simp only [State.branchRoom, Bool.and_eq_true, beq_iff_eq] at room
        exact room.1.1
      have held (n : Nat) : BranchLaw (s.setBranchHold (branchOf c.outlet) n) := h
      dsimp only
      split
      · split
        · next accepted =>
          have joined := branchLaw_enqueue (held _) accepted fun _ => idle
          have marked := branchLaw_setOutlet_same (o := c.outlet) joined (x := Outlet.restored _) rfl
          exact branchLaw_choose (branchLaw_setBranch marked _ _)
        all_goals exact h
      · exact h
    · exact h

theorem branchLaw_stepTripping (h : BranchLaw s) (b : BranchIx) (isOver : Bool) :
    BranchLaw (s.stepTripping b isOver) := by
  unfold State.stepTripping
  dsimp only
  split
  · exact h
  · split
    · exact h
    · split
      · exact branchLaw_branchRestoreTest (branchLaw_setBranch h b _) b
      · exact h

theorem branchLaw_stepBranchState (h : BranchLaw s) (b : BranchIx) : BranchLaw (s.stepBranchState b) := by
  unfold State.stepBranchState
  dsimp only
  split
  · split
    · exact branchLaw_tripTest (branchLaw_setBranch h b _) b
    · exact h
  · split
    · exact branchLaw_tripTest (branchLaw_setBranch h b _) b
    · split
      · exact h
      · exact branchLaw_branchRestoreTest h b
  · split
    · exact branchLaw_tripTest (branchLaw_setBranch h b _) b
    · exact h
  · exact branchLaw_stepTripping h b _

theorem branchLaw_stepBranch (h : BranchLaw s) (b : BranchIx) : BranchLaw (s.stepBranch b) :=
  branchLaw_stepBranchState (branchLaw_setBranch h b _) b

/-! ### Curtailment -/

theorem branchLaw_startSettle (h : BranchLaw s) (k : SlotIx) : BranchLaw (s.startSettle k) := h

theorem branchLaw_setHold (h : BranchLaw s) (k : SlotIx) (n : Nat) : BranchLaw (s.setHold k n) := h

theorem branchLaw_sendNote (h : BranchLaw s) (id : Nat) (d : NoteDirection) (rank draw : Nat) :
    BranchLaw (s.sendNote id d rank draw) := by
  unfold State.sendNote
  split
  · exact h
  · exact h

theorem branchLaw_uncurtailable (h : BranchLaw s) (k : SlotIx) (stamp : Nat) : BranchLaw (s.uncurtailable k stamp) := by
  unfold State.uncurtailable
  split
  · exact h
  · exact h

theorem branchLaw_electShed (h : BranchLaw s) {k : SlotIx}
    (accepted : s.requestOutcome (tenantAction k o .openRelay) = .accepted) (stamp rank draw : Nat) :
    BranchLaw (s.electShed k stamp o rank draw) := by
  have joined := branchLaw_enqueue h accepted nofun
  have marked := branchLaw_setOutlet_same (o := o) joined (x := (Outlet.opened _ .tenant (s.counted o))) rfl
  have told (id : Nat) := branchLaw_sendNote marked id .shed rank draw
  exact branchLaw_chooseAt (branchLaw_startSettle (branchLaw_raiseAt (told _) _ _) k) stamp

theorem branchLaw_electRestore (h : BranchLaw s) {k : SlotIx}
    (accepted : s.requestOutcome (tenantAction k o .closeRelay) = .accepted) (stamp rank draw : Nat) :
    BranchLaw (s.electRestore k stamp o rank draw) := by
  have joined := branchLaw_enqueue h accepted nofun
  have marked := branchLaw_setOutlet_same (o := o) joined (x := Outlet.restored _) rfl
  have told (id : Nat) := branchLaw_sendNote marked id .restore rank draw
  exact branchLaw_chooseAt (branchLaw_setHold (branchLaw_startSettle (branchLaw_raiseAt (told _) _ _) k) k 0) stamp

theorem branchLaw_shedElection (h : BranchLaw s) (k : SlotIx) (stamp : Nat) : BranchLaw (s.shedElection k stamp) := by
  unfold State.shedElection
  split
  · exact branchLaw_uncurtailable h k stamp
  · split
    · exact h
    · split
      · next accepted => exact branchLaw_electShed h accepted _ _ _
      all_goals exact h

theorem branchLaw_restoreElection (h : BranchLaw s) (k : SlotIx) (stamp : Nat) (c : RowCandidate) :
    BranchLaw (s.restoreElection k stamp c) := by
  unfold State.restoreElection
  split
  · exact h
  · split
    · next accepted => exact branchLaw_electRestore h accepted _ _ _
    all_goals exact h

theorem branchLaw_restoreTest (h : BranchLaw s) (k : SlotIx) (stamp : Nat) : BranchLaw (s.restoreTest k stamp) := by
  have held (n : Nat) := branchLaw_setHold h k n
  unfold State.restoreTest
  split
  · exact held 0
  · split
    · dsimp only
      split
      · exact branchLaw_restoreElection (held _) k stamp _
      · exact held _
    · exact held 0

theorem branchLaw_curtailSlot (h : BranchLaw s) (stamp : Nat) (k : SlotIx) : BranchLaw (s.curtailSlot stamp k) := by
  have fresh := branchLaw_setCurSlot h k ((s.curSlot k).refresh (s.slot k).state)
  unfold State.curtailSlot
  split
  · exact h
  · split
    · exact h
    · dsimp only
      split
      · exact fresh
      · split
        · exact branchLaw_shedElection fresh k stamp
        · exact branchLaw_restoreTest fresh k stamp
        all_goals exact fresh

/-! ### Commands by hand -/

theorem branchLaw_openByStanding (h : BranchLaw s) (o : OutletIx) : BranchLaw (s.openByStanding o) := by
  unfold State.openByStanding
  dsimp only
  split
  · split
    · next accepted =>
      have joined := branchLaw_enqueue h accepted nofun
      have marked := branchLaw_setOutlet_same (o := o) joined (x := (s.outlet o).manuallyOpened (s.counted o))
        (by rw [State.enqueue_outlet]; rfl)
      exact branchLaw_reply (branchLaw_choose marked) _ _ _
    · exact branchLaw_setOutlet_same h rfl
    · exact h
    · exact h
  · exact branchLaw_setOutlet_same h rfl
  · exact branchLaw_setOutlet_same h rfl
  · exact h

theorem branchLaw_closeManual (h : BranchLaw s) (o : OutletIx) : BranchLaw (s.closeManual o) := by
  unfold State.closeManual
  dsimp only
  split
  · next accepted =>
    have joined := branchLaw_enqueue h accepted nofun
    have marked := branchLaw_setOutlet_same (o := o) joined (x := (s.outlet o).restored)
      (by rw [State.enqueue_outlet]; rfl)
    exact branchLaw_reply (branchLaw_choose marked) _ _ _
  · exact branchLaw_setOutlet_same h rfl
  · exact h
  · exact h

/-- A FAULTED outlet's queued actions leave, and its REARM joins the standard lane (R144). -/
theorem branchLaw_acceptRearm (h : BranchLaw s) (flight : s.rsq.inFlightFor o = none)
    (room : s.rsq.hasRoom .standard (s.rsq.queuedFor o) = true) : BranchLaw (s.acceptRearm o) := by
  have removed : BranchLaw { s with rsq := s.rsq.remove o } := branchLaw_setRsq h fun stands => stands.remove o
  have flushed := foldl_keeps
    (P := fun u : State => BranchLaw u ∧ u.rsq = s.rsq.remove o)
    (f := State.retireFaulted s.tly.count)
    (fun u c ⟨law, rsq⟩ => ⟨branchLaw_retireFaulted law _ c, by
      rw [← rsq]
      unfold State.retireFaulted
      dsimp only
      split <;> rfl⟩)
    (s.rsq.allQueuedFor o) { s with rsq := s.rsq.remove o } ⟨removed, rfl⟩
  obtain ⟨law, rsq⟩ := flushed
  refine branchLaw_reply (branchLaw_choose (branchLaw_setRsq law fun stands => ?_)) _ _ _
  have lane : (s.manualAction o .rearm).lane = .standard := Action.lane_manual ..
  rw [rsq] at stands ⊢
  refine stands.append (Rsq.free_remove flight) ?_ nofun
  rw [lane]
  exact ((branchLaw_iff s).mp h).room_remove room

theorem branchLaw_rearmFaulted (h : BranchLaw s) (faulted : (s.outlet o).actuator ≠ .enabled) :
    BranchLaw (s.rearmFaulted o) := by
  have flight : s.rsq.inFlightFor o = none := Rsq.inFlightFor_eq_none fun f hf here =>
    faulted (here ▸ ((branchLaw_iff s).mp h).enabled f hf)
  have queued := State.queuedFor_of_pending flight
  unfold State.rearmFaulted
  split
  · next free =>
    rw [free] at queued
    split
    · next room => exact branchLaw_acceptRearm h flight (queued ▸ room)
    · exact h
  · next p hp =>
    rw [hp] at queued
    split
    · exact h
    · split
      · next room => exact branchLaw_acceptRearm h flight (queued ▸ room)
      · exact h

end Sys2Proof.Machine
end

section
/-! One action per outlet and one branch action per branch through every step (O57): what the other blocks leave of the
sequencer, then every command. -/

namespace Sys2Proof.Machine

open Sys2Proof.Safety Sys2Proof.Claims

variable {s t : State}

/-! ### What the other blocks leave -/

theorem branchLaw_startSweep (h : BranchLaw s) : BranchLaw s.startSweep := by
  rw [s.startSweep_eq]
  exact h

theorem branchLaw_completeSweep (h : BranchLaw s) : BranchLaw s.completeSweep := by
  have handed : BranchLaw ({ s with osu := { s.osu with stage := .idle } } : State).handSweep := by
    unfold State.handSweep
    split
    · exact h
    · exact h
    · exact h
  unfold State.completeSweep
  dsimp only
  split
  · exact branchLaw_startSweep handed
  · exact handed

theorem branchLaw_visited (h : BranchLaw s) (o : OutletIx) (reading : Reading) (bodies : List NoticeBody) :
    BranchLaw (visited s o reading bodies) :=
  branchLaw_setOutlet_same (o := o) (x := afterVisit (s.outlet o) reading) h rfl

theorem branchLaw_visit (h : BranchLaw s) (outcome : Option FrontEndReply) : BranchLaw (s.visit outcome) := by
  have disposed : BranchLaw (s.dispose s.osu.scan outcome) := by
    cases outcome with
    | none => rw [State.dispose_silent]; exact branchLaw_visited h _ _ _
    | some r => rw [State.dispose_reply]; exact branchLaw_visited h _ _ _
  unfold State.visit State.endVisit
  split
  · exact disposed
  · exact branchLaw_completeSweep disposed

theorem branchLaw_sensorFailed (h : BranchLaw s) : BranchLaw s.sensorFailed := by
  unfold State.sensorFailed
  split
  · exact h
  · exact h

/-- Work on the runtime records of the slots leaves the sequencer and the outlets. -/
theorem branchLaw_workSlots (h : BranchLaw s) (work : State → SlotIx → SlotRuntime) (l : List SlotIx) :
    BranchLaw (l.foldl (State.workSlot work) s) := by
  obtain ⟨slots, nq, frame⟩ := foldl_workSlot_frame work l s
  rw [frame]
  exact h

theorem branchLaw_addOutletEnergy (h : BranchLaw s) (stamp : Nat) (o : OutletIx) :
    BranchLaw (s.addOutletEnergy stamp o) := by
  unfold State.addOutletEnergy
  dsimp only
  split
  · exact branchLaw_setOutlet_same h rfl
  · exact branchLaw_setOutlet_same h rfl

theorem branchLaw_accountSlot (h : BranchLaw s) (stamp : Nat) (k : SlotIx) : BranchLaw (s.accountSlot stamp k) := by
  have energy : BranchLaw (s.addSlotEnergy stamp k) := by
    unfold State.addSlotEnergy
    dsimp only
    split
    · exact h
    · exact h
  unfold State.accountSlot State.addOverage
  split
  · dsimp only
    split
    · exact energy
    · split
      · exact energy
      · exact energy
  · exact h

theorem branchLaw_ageEntry (h : BranchLaw s) (i : PlaceIx) : BranchLaw (s.ageEntry i) := by
  rw [State.ageEntry_eq]
  exact h

theorem branchLaw_applyNote (h : BranchLaw s) (n : HeardNote) : BranchLaw (s.applyNote n) := by
  unfold State.applyNote
  split
  · exact h
  · split
    · exact h
    · exact h

theorem branchLaw_learn (h : BranchLaw s) (station stamp : Nat) (k : SlotIx) (e : SummaryEntry) :
    BranchLaw (s.learn station stamp k e) := by
  unfold State.learn
  split
  · exact h
  · split
    · rw [State.checkMismatch_eq]
      exact h
    · split
      · rw [State.checkMismatch_eq]
        exact h
      · rw [State.refuseCreation_eq]
        exact h

theorem branchLaw_handFrame (h : BranchLaw s) (station : Nat) (c : FrameContent) :
    BranchLaw (s.handFrame station c) := by
  unfold State.handFrame
  split
  · split
    · exact h
    · exact h
  · split
    · exact h
    · refine foldl_keeps (fun u e hu => ?_) _ s h
      split
      · exact branchLaw_learn hu _ _ _ _
      · exact hu
    · split
      · exact h
      · exact h

theorem branchLaw_sendSummaries (h : BranchLaw s) : BranchLaw s.sendSummaries := by
  unfold State.sendSummaries
  dsimp only
  split
  · exact h
  · exact h

theorem branchLaw_clear (h : BranchLaw s) (target : ClearTarget) : BranchLaw (s.clear target) := by
  cases target with
  | outlet o => exact branchLaw_setOutlet_same h rfl
  | slot k => exact h
  | all => exact branchLaw_mapOutlets h fun _ => rfl

/-- 4 µs keep the actions and the actuators. -/
theorem branchLaw_idle (h : BranchLaw s) : BranchLaw s.idle := by
  unfold State.idle
  split
  · exact h
  · have ticked : BranchLaw { s with outlets := mapVec Outlet.tick s.outlets } := branchLaw_mapOutlets h fun _ => rfl
    refine branchLaw_setRsq (s := { s with outlets := mapVec Outlet.tick s.outlets }) ticked fun stands =>
      stands.sameActions (p := s.tick.rsq) rfl rfl ?_
    exact Option.map_map ..

/-! ### Resets and the entry into WARMUP -/

theorem branchLaw_of_reset (h : s.rsq = Rsq.reset) : BranchLaw s := (branchLaw_iff s).mpr (h ▸ .reset)

theorem branchLaw_restarted (s : State) : BranchLaw s.restarted := by
  refine branchLaw_of_reset ?_
  rw [State.restarted_eq]
  unfold State.leavePulse
  split
  · split
    · rfl
    · rfl
  · rfl

/-- Adoption enables an outlet or leaves it (R17, R146). -/
theorem branchLaw_enterWarmup (h : BranchLaw s) : BranchLaw s.enterWarmup := by
  have stands := (branchLaw_iff s).mp h
  obtain ⟨v, records, entered⟩ := s.enterWarmup_eq
  rw [entered]
  refine (branchLaw_iff _).mpr (stands.setActuators fun f hf => ?_)
  have adopted : (s.adopted f.action.outlet).actuator = .enabled := by
    unfold State.adopted
    split
    · exact Outlet.adopt_actuator ..
    · exact stands.enabled f hf
  exact (congrArg Outlet.actuator (records f.action.outlet)).trans adopted

/-! ### Commands -/

/-- Every answer of an outcome keeps BranchLaw. -/
def KeepsBranchLaw (s : State) (outcome : Host.Outcome State Fault Refusal) : Prop :=
  ∀ t, outcome = .next t → BranchLaw s → BranchLaw t

theorem keepsBranchLaw_unlessHeld {f : State → State} (work : BranchLaw s → BranchLaw (f s)) :
    KeepsBranchLaw s (unlessHeld s f) := by
  rintro t ⟨⟩ h
  split
  · exact h
  · exact work h

theorem keepsBranchLaw_portCommand {code : Byte} {len : Nat} {r : Record} {work : State → State}
    (kept : ∀ u, BranchLaw u → BranchLaw (work u)) : KeepsBranchLaw s (portCommand code len r s work) := by
  refine keepsBranchLaw_unlessHeld fun h => ?_
  dsimp only
  split
  · exact kept _ h
  · exact h

theorem keepsBranchLaw_load {α : Type} {code : Byte} {len : Nat} {r : Record} {params : Option α}
    {write : State → α → State} (kept : ∀ u p, BranchLaw u → BranchLaw (write u p)) :
    KeepsBranchLaw s (portCommand code len r s fun u => u.load code params write) :=
  keepsBranchLaw_portCommand fun u h => by
    rcases u.load_cases code params write with ⟨-, e⟩ | ⟨-, -, e⟩ | ⟨p, -, -, e⟩ <;> rw [e]
    · exact h
    · exact h
    · exact kept u p h

theorem keepsBranchLaw_outletCommand {code : Byte} {r : Record} {pins : Contacts} {work : State → OutletIx → State}
    (kept : ∀ u o, BranchLaw u → BranchLaw (work u o)) :
    KeepsBranchLaw s
      (portCommand code 1 r s fun u => (u.withPins pins).outletCommand code (paramByte r 0) work) :=
  keepsBranchLaw_portCommand fun u h => by
    unfold State.outletCommand
    split
    · exact h
    · split
      · exact kept _ _ h
      · exact h

theorem execNoCommandTransaction_keepsBranchLaw (bytes : List Byte) :
    KeepsBranchLaw s (execNoCommandTransaction bytes s) :=
  keepsBranchLaw_unlessHeld id

theorem execCutShortRecord_keepsBranchLaw (code len : Byte) (given : List Byte) :
    KeepsBranchLaw s (execCutShortRecord code len given s) :=
  keepsBranchLaw_unlessHeld id

theorem execUnknownCommandCode_keepsBranchLaw (code : Byte) (r : Record) :
    KeepsBranchLaw s (execUnknownCommandCode code r s) :=
  keepsBranchLaw_unlessHeld id

theorem execReadStatus_keepsBranchLaw (r : Record) : KeepsBranchLaw s (execReadStatus r s) :=
  keepsBranchLaw_portCommand fun _ => id

theorem execReadTenant_keepsBranchLaw (r : Record) : KeepsBranchLaw s (execReadTenant r s) :=
  keepsBranchLaw_portCommand fun _ h => by split <;> exact h

theorem execReadOutlet_keepsBranchLaw (r : Record) : KeepsBranchLaw s (execReadOutlet r s) :=
  keepsBranchLaw_portCommand fun _ h => by split <;> exact h

theorem execReadBranch_keepsBranchLaw (r : Record) : KeepsBranchLaw s (execReadBranch r s) :=
  keepsBranchLaw_portCommand fun _ h => by split <;> exact h

theorem execReadContribution_keepsBranchLaw (r : Record) : KeepsBranchLaw s (execReadContribution r s) :=
  keepsBranchLaw_portCommand fun _ => id

theorem execSetCursor_keepsBranchLaw (r : Record) : KeepsBranchLaw s (execSetCursor r s) :=
  keepsBranchLaw_portCommand fun _ h => by split <;> exact h

theorem execReadNotices_keepsBranchLaw (r : Record) : KeepsBranchLaw s (execReadNotices r s) :=
  keepsBranchLaw_portCommand fun _ h => by dsimp only; split <;> exact h

theorem execLoadStation_keepsBranchLaw (r : Record) : KeepsBranchLaw s (execLoadStation r s) :=
  keepsBranchLaw_load fun _ _ => id

theorem execLoadTenant_keepsBranchLaw (r : Record) : KeepsBranchLaw s (execLoadTenant r s) :=
  keepsBranchLaw_load fun _ _ => id

theorem execLoadOutlet_keepsBranchLaw (r : Record) : KeepsBranchLaw s (execLoadOutlet r s) :=
  keepsBranchLaw_load fun _ _ h => branchLaw_setOutlet_same h rfl

theorem execLoadCalibration_keepsBranchLaw (r : Record) : KeepsBranchLaw s (execLoadCalibration r s) :=
  keepsBranchLaw_load fun _ _ h => branchLaw_setOutlet_same h rfl

theorem execLoadBranch_keepsBranchLaw (r : Record) : KeepsBranchLaw s (execLoadBranch r s) :=
  keepsBranchLaw_load fun _ _ => id

theorem execLoadFixed_keepsBranchLaw (r : Record) : KeepsBranchLaw s (execLoadFixed r s) :=
  keepsBranchLaw_load fun _ _ => id

theorem execStart_keepsBranchLaw (r : Record) (pins : Contacts) : KeepsBranchLaw s (execStart r pins s) :=
  keepsBranchLaw_portCommand fun u h => by
    split
    · exact h
    · split
      · exact h
      · have presented : BranchLaw (u.withPins pins) := h
        exact branchLaw_reply (branchLaw_enterWarmup presented) _ _ _

theorem execRestart_keepsBranchLaw (r : Record) : KeepsBranchLaw s (execRestart r s) :=
  keepsBranchLaw_portCommand fun u _ => branchLaw_restarted u

theorem execOutletOpen_keepsBranchLaw (r : Record) (pins : Contacts) : KeepsBranchLaw s (execOutletOpen r pins s) :=
  keepsBranchLaw_outletCommand fun u o h => by
    split
    · exact h
    · exact branchLaw_openByStanding h o

theorem execOutletClose_keepsBranchLaw (r : Record) (pins : Contacts) : KeepsBranchLaw s (execOutletClose r pins s) :=
  keepsBranchLaw_outletCommand fun u o h => by
    split
    · exact h
    · exact branchLaw_closeManual h o

theorem execRearm_keepsBranchLaw (r : Record) (pins : Contacts) : KeepsBranchLaw s (execRearm r pins s) :=
  keepsBranchLaw_outletCommand fun u o h => by
    split
    · exact h
    · next faulted => exact branchLaw_rearmFaulted h faulted

theorem execSetBand_keepsBranchLaw (r : Record) : KeepsBranchLaw s (execSetBand r s) :=
  keepsBranchLaw_portCommand fun _ h => by
    split
    · exact h
    · split <;> exact h

theorem execClearCounters_keepsBranchLaw (r : Record) : KeepsBranchLaw s (execClearCounters r s) :=
  keepsBranchLaw_portCommand fun u h => by
    split
    · exact h
    · split
      · exact branchLaw_clear h _
      · exact h

theorem execSweepTimerExpiry_keepsBranchLaw : KeepsBranchLaw s (execSweepTimerExpiry s) :=
  keepsBranchLaw_unlessHeld fun h => by
    split
    · exact h
    · split
      · exact branchLaw_startSweep h
      all_goals exact h

theorem execTempReadEnd_keepsBranchLaw (result : TempResult) : KeepsBranchLaw s (execTempReadEnd result s) :=
  keepsBranchLaw_unlessHeld fun h => by
    split
    · split
      · exact branchLaw_sensorFailed h
      · split
        · exact h
        · exact branchLaw_sensorFailed h
    all_goals exact h

theorem execTempReadTimeout_keepsBranchLaw : KeepsBranchLaw s (execTempReadTimeout s) :=
  keepsBranchLaw_unlessHeld fun h => by
    split
    · exact branchLaw_sensorFailed h
    all_goals exact h

theorem execReadingReply_keepsBranchLaw (reply : FrontEndReply) : KeepsBranchLaw s (execReadingReply reply s) :=
  keepsBranchLaw_unlessHeld fun h => by
    split
    · exact branchLaw_visit h _
    all_goals exact h

theorem execReadingTimeout_keepsBranchLaw : KeepsBranchLaw s (execReadingTimeout s) :=
  keepsBranchLaw_unlessHeld fun h => by
    split
    · exact branchLaw_visit h _
    all_goals exact h

/-- The settle countdown's end leaves the actuator (R34). -/
theorem execSettleCountdownEnd_keepsBranchLaw (o : OutletIx) : KeepsBranchLaw s (execSettleCountdownEnd o s) :=
  keepsBranchLaw_unlessHeld fun h => by
    split
    · refine branchLaw_setOutlet_same h ?_
      unfold Outlet.settled
      split <;> rfl
    · exact h

theorem execEnterRun_keepsBranchLaw : KeepsBranchLaw s (execEnterRun s) :=
  keepsBranchLaw_unlessHeld fun h => by
    split
    · have run : BranchLaw { s with mpt := { s.mpt with phase := .run } } := h
      have worked := branchLaw_workSlots run State.runRecord allSlots
      rw [← State.enterSlot_eq_workSlot] at worked
      dsimp only
      generalize allSlots.foldl State.enterSlot _ = v at worked ⊢
      exact worked
    · exact h

theorem execTallyTimerExpiry_keepsBranchLaw : KeepsBranchLaw s (execTallyTimerExpiry s) :=
  keepsBranchLaw_unlessHeld fun h => by
    split
    · exact h
    · have counted : BranchLaw { s with
          tly := { s.tly with timer := some Config.tallyTicks, count := nextTally s.tly.count } } := h
      have worked := branchLaw_workSlots counted State.tallyRecord allSlots
      rw [← State.tallySlot_eq_workSlot] at worked
      dsimp only
      generalize allSlots.foldl State.tallySlot _ = v at worked ⊢
      exact worked

theorem execEctTallyCompletion_keepsBranchLaw : KeepsBranchLaw s (execEctTallyCompletion s) :=
  keepsBranchLaw_unlessHeld fun h => by
    split
    · exact h
    · next n rest _ =>
      have taken : BranchLaw { s with ect := { s.ect with tallies := rest } } := h
      have outlets := foldl_keeps (P := BranchLaw) (fun _ o hu => branchLaw_addOutletEnergy hu n o) allOutlets _ taken
      exact foldl_keeps (P := BranchLaw) (fun _ k hu => branchLaw_accountSlot hu n k) allSlots _ outlets

theorem execCurTallyCompletion_keepsBranchLaw (pins : Contacts) : KeepsBranchLaw s (execCurTallyCompletion pins s) :=
  keepsBranchLaw_unlessHeld fun h => by
    dsimp only
    split
    · exact h
    · next n rest _ =>
      exact foldl_keeps (P := BranchLaw) (fun _ k hu => branchLaw_curtailSlot hu n k) allSlots _ h

theorem execRlcTallyCompletion_keepsBranchLaw : KeepsBranchLaw s (execRlcTallyCompletion s) :=
  keepsBranchLaw_unlessHeld fun h => by
    split
    · exact h
    · next n rest _ =>
      have taken : BranchLaw { s with rlc := { s.rlc with tallies := rest } } := h
      dsimp only
      split
      · exact branchLaw_sendSummaries taken
      · exact taken

theorem execBrmSweepCompletion_keepsBranchLaw (pins : Contacts) : KeepsBranchLaw s (execBrmSweepCompletion pins s) :=
  keepsBranchLaw_unlessHeld fun h => by
    dsimp only
    split
    · exact h
    · exact foldl_keeps (P := BranchLaw) (fun _ b hu => branchLaw_stepBranch hu b) allBranches _ h

theorem execMismatchCheck_keepsBranchLaw (pins : Contacts) : KeepsBranchLaw s (execMismatchCheck pins s) :=
  keepsBranchLaw_unlessHeld fun h => by
    dsimp only
    split
    · exact h
    · exact foldl_keeps (P := BranchLaw) (fun _ o hu => branchLaw_checkOutlet hu o) allOutlets _ h

theorem execAgingTimerExpiry_keepsBranchLaw : KeepsBranchLaw s (execAgingTimerExpiry s) :=
  keepsBranchLaw_unlessHeld fun h => by
    split
    · exact h
    · exact foldl_keeps (P := BranchLaw) (fun _ i hu => branchLaw_ageEntry hu i) allPlaces _ h

theorem execPendingAdjustmentExpiry_keepsBranchLaw (i : PlaceIx) :
    KeepsBranchLaw s (execPendingAdjustmentExpiry i s) :=
  keepsBranchLaw_unlessHeld fun h => by split <;> exact h

theorem execSettleTimerExpiry_keepsBranchLaw (k : SlotIx) : KeepsBranchLaw s (execSettleTimerExpiry k s) :=
  keepsBranchLaw_unlessHeld id

theorem execRetryTimerExpiry_keepsBranchLaw : KeepsBranchLaw s (execRetryTimerExpiry s) :=
  keepsBranchLaw_unlessHeld fun h => by split <;> exact h

theorem execStaggerTimerExpiry_keepsBranchLaw (pins : Contacts) : KeepsBranchLaw s (execStaggerTimerExpiry pins s) :=
  keepsBranchLaw_unlessHeld fun h => by
    dsimp only
    split
    · refine branchLaw_choose ?_
      exact h
    · exact h

theorem execFeedbackTargetSensed_keepsBranchLaw (pins : Contacts) :
    KeepsBranchLaw s (execFeedbackTargetSensed pins s) :=
  keepsBranchLaw_unlessHeld fun h => by
    split
    · exact h
    · next f hf =>
      have presented : BranchLaw (s.withPins (setContact pins f.action.outlet f.action.kind.target)) := h
      dsimp only
      split
      · exact branchLaw_setInFlight presented hf rfl
      · exact branchLaw_choose (branchLaw_retireDone presented _)

theorem execCoilPulseEnd_keepsBranchLaw (pins : Contacts) : KeepsBranchLaw s (execCoilPulseEnd pins s) :=
  keepsBranchLaw_unlessHeld fun h => by
    have presented : BranchLaw (s.withPins pins) := h
    dsimp only
    split
    · exact h
    · next f hf =>
      split
      · exact h
      · split
        · exact branchLaw_choose (branchLaw_retireDone presented _)
        · exact branchLaw_setInFlight presented hf rfl

theorem execFeedbackWindowTimeout_keepsBranchLaw (pins : Contacts) :
    KeepsBranchLaw s (execFeedbackWindowTimeout pins s) :=
  keepsBranchLaw_unlessHeld fun h => by
    have presented : BranchLaw (s.withPins pins) := h
    dsimp only
    split
    · exact h
    · next f hf =>
      split
      · split
        · exact branchLaw_setInFlight presented hf rfl
        · exact branchLaw_choose (branchLaw_retireDone presented _)
      · exact branchLaw_choose (branchLaw_retireTimeout presented _)

theorem execPulseEndAdoption_keepsBranchLaw (o : OutletIx) (pins : Contacts) :
    KeepsBranchLaw s (execPulseEndAdoption o pins s) :=
  keepsBranchLaw_unlessHeld fun h => by
    have presented : BranchLaw (s.withPins pins) := h
    dsimp only
    split
    · exact h
    · split
      · exact branchLaw_setOutlet_same presented rfl
      · exact branchLaw_adopt presented _

theorem execContendOnIdleLine_keepsBranchLaw : KeepsBranchLaw s (execContendOnIdleLine s) :=
  keepsBranchLaw_unlessHeld fun h => by split <;> exact h

theorem execArbitrationLost_keepsBranchLaw : KeepsBranchLaw s (execArbitrationLost s) :=
  keepsBranchLaw_unlessHeld fun h => by split <;> exact h

theorem execTransmitFailure_keepsBranchLaw : KeepsBranchLaw s (execTransmitFailure s) :=
  keepsBranchLaw_unlessHeld fun h => by
    split
    · exact h
    · dsimp only
      split
      · exact h
      · exact h

theorem execTransmitSuccess_keepsBranchLaw : KeepsBranchLaw s (execTransmitSuccess s) :=
  keepsBranchLaw_unlessHeld fun h => by
    split
    · exact h
    · dsimp only
      split
      · exact h
      · exact h

theorem execFrameReceived_keepsBranchLaw (f : LineFrame) : KeepsBranchLaw s (execFrameReceived f s) :=
  keepsBranchLaw_unlessHeld fun h => by
    split
    · exact h
    · split
      · exact h
      · split
        · exact h
        · split
          · exact h
          · exact branchLaw_handFrame h _ _

theorem execCtbNote_keepsBranchLaw : KeepsBranchLaw s (execCtbNote s) :=
  keepsBranchLaw_unlessHeld fun h => by
    split
    · exact h
    · next n rest _ =>
      have taken : BranchLaw { s with ctb := { s.ctb with notes := rest } } := h
      exact branchLaw_applyNote taken n

theorem execCurNote_keepsBranchLaw : KeepsBranchLaw s (execCurNote s) :=
  keepsBranchLaw_unlessHeld fun h => by
    split
    · exact h
    · dsimp only
      split
      · exact h
      · exact h

/-! ### Every step -/

/-- Each command keeps one action per outlet and one branch action per branch. -/
theorem exec_keepsBranchLaw (c : Instr) (s : State) : KeepsBranchLaw s (exec c s) := by
  cases c with
  | powerOn => rintro t ⟨⟩ -; exact branchLaw_of_reset rfl
  | resetPinAssert => rintro t ⟨⟩ -; exact branchLaw_of_reset rfl
  | resetPinRelease => rintro t ⟨⟩ -; exact branchLaw_of_reset rfl
  | noCommandTransaction bytes => exact execNoCommandTransaction_keepsBranchLaw bytes
  | cutShortRecord code len given => exact execCutShortRecord_keepsBranchLaw code len given
  | unknownCommandCode code r => exact execUnknownCommandCode_keepsBranchLaw code r
  | readStatus r => exact execReadStatus_keepsBranchLaw r
  | readTenant r => exact execReadTenant_keepsBranchLaw r
  | readOutlet r => exact execReadOutlet_keepsBranchLaw r
  | readBranch r => exact execReadBranch_keepsBranchLaw r
  | readContribution r => exact execReadContribution_keepsBranchLaw r
  | setCursor r => exact execSetCursor_keepsBranchLaw r
  | readNotices r => exact execReadNotices_keepsBranchLaw r
  | loadStation r => exact execLoadStation_keepsBranchLaw r
  | loadTenant r => exact execLoadTenant_keepsBranchLaw r
  | loadOutlet r => exact execLoadOutlet_keepsBranchLaw r
  | loadCalibration r => exact execLoadCalibration_keepsBranchLaw r
  | loadBranch r => exact execLoadBranch_keepsBranchLaw r
  | loadFixed r => exact execLoadFixed_keepsBranchLaw r
  | start r pins => exact execStart_keepsBranchLaw r pins
  | restart r => exact execRestart_keepsBranchLaw r
  | outletOpen r pins => exact execOutletOpen_keepsBranchLaw r pins
  | outletClose r pins => exact execOutletClose_keepsBranchLaw r pins
  | rearm r pins => exact execRearm_keepsBranchLaw r pins
  | setBand r => exact execSetBand_keepsBranchLaw r
  | clearCounters r => exact execClearCounters_keepsBranchLaw r
  | sweepTimerExpiry => exact execSweepTimerExpiry_keepsBranchLaw
  | tempReadEnd result => exact execTempReadEnd_keepsBranchLaw result
  | tempReadTimeout => exact execTempReadTimeout_keepsBranchLaw
  | readingReply reply => exact execReadingReply_keepsBranchLaw reply
  | readingTimeout => exact execReadingTimeout_keepsBranchLaw
  | lateReply reply => rintro t ⟨⟩ h; exact h
  | settleCountdownEnd o => exact execSettleCountdownEnd_keepsBranchLaw o
  | enterRun => exact execEnterRun_keepsBranchLaw
  | tallyTimerExpiry => exact execTallyTimerExpiry_keepsBranchLaw
  | ectTallyCompletion => exact execEctTallyCompletion_keepsBranchLaw
  | curTallyCompletion pins => exact execCurTallyCompletion_keepsBranchLaw pins
  | rlcTallyCompletion => exact execRlcTallyCompletion_keepsBranchLaw
  | brmSweepCompletion pins => exact execBrmSweepCompletion_keepsBranchLaw pins
  | mismatchCheck pins => exact execMismatchCheck_keepsBranchLaw pins
  | agingTimerExpiry => exact execAgingTimerExpiry_keepsBranchLaw
  | pendingAdjustmentExpiry i => exact execPendingAdjustmentExpiry_keepsBranchLaw i
  | settleTimerExpiry k => exact execSettleTimerExpiry_keepsBranchLaw k
  | retryTimerExpiry => exact execRetryTimerExpiry_keepsBranchLaw
  | staggerTimerExpiry pins => exact execStaggerTimerExpiry_keepsBranchLaw pins
  | feedbackTargetSensed pins => exact execFeedbackTargetSensed_keepsBranchLaw pins
  | coilPulseEnd pins => exact execCoilPulseEnd_keepsBranchLaw pins
  | feedbackWindowTimeout pins => exact execFeedbackWindowTimeout_keepsBranchLaw pins
  | pulseEndAdoption o pins => exact execPulseEndAdoption_keepsBranchLaw o pins
  | contendOnIdleLine => exact execContendOnIdleLine_keepsBranchLaw
  | arbitrationLost => exact execArbitrationLost_keepsBranchLaw
  | transmitSuccess => exact execTransmitSuccess_keepsBranchLaw
  | transmitFailure => exact execTransmitFailure_keepsBranchLaw
  | frameReceived frame => exact execFrameReceived_keepsBranchLaw frame
  | ctbNote => exact execCtbNote_keepsBranchLaw
  | curNote => exact execCurNote_keepsBranchLaw

/-- Settles O57: an action joins only for an outlet left with none, and a branch's only with none pending for the
branch; what is taken from a lane starts or leaves; an outlet goes FAULTED only when it is not in flight. -/
theorem stepKeepsOneActionPerOutletAndBranch : Obligations.StepKeepsOneActionPerOutletAndBranch := by
  intro s t h law
  unfold step at h
  split at h
  · cases h
    exact branchLaw_idle law
  · next c rest _ =>
    have taken : BranchLaw { s with pending := rest } := law
    exact exec_keepsBranchLaw c _ t h taken

end Sys2Proof.Machine
end

section
/-! The Branch Monitor at a sweep completion: the branch's current, then its state step by the state it stands in. -/

namespace Sys2Proof.Machine

open Sys2Proof.Claims

variable {s : State} {b : BranchIx} {x : Branch}

/-! ### The branch's figures -/

theorem State.branchCurrent_eq (s : State) (b : BranchIx) : s.branchCurrent b = currentOf s b := by
  simp only [State.branchCurrent, outletsOf, sum_map_filter, beq_iff_eq, branchOf_eq_iff, currentOf]

/-- A branch's turn is its state step on the record with its current formed (R124, R125). -/
theorem State.stepBranch_eq (s : State) (b : BranchIx) :
    s.stepBranch b = (withBranch s b { s.branch b with current := currentOf s b }).stepBranchState b := by
  rw [State.stepBranch, State.branchCurrent_eq]
  rfl

/-! ### A branch record replaced -/

@[simp] theorem withBranch_branch (s : State) (b : BranchIx) (x : Branch) : (withBranch s b x).branch b = x :=
  State.branch_setBranch_self ..

@[simp] theorem withBranch_setBranch (s : State) (b : BranchIx) (x y : Branch) :
    (withBranch s b x).setBranch b y = withBranch s b y := by
  simp [withBranch, State.setBranch]

/-- Pending actions are not read from the branch records. -/
theorem withBranch_busy : BranchBusy (withBranch s b x) b ↔ BranchBusy s b := .rfl

theorem withBranch_shedCount : (withBranch s b x).branchShedCount b = branchShed s b :=
  State.branchShedCount_eq ..

theorem withBranch_restState :
    (withBranch s b x).restState b = if branchShed s b = 0 then .normal else .shed := by
  rw [State.restState, withBranch_shedCount]

/-- The trip test, on the record just stored (R125). -/
theorem withBranch_tripTest (s : State) (b : BranchIx) (y : Branch) :
    (y.overCount = y.tripDelay → ¬ BranchBusy s b → (withBranch s b y).tripTest b = (withBranch s b y).trip b) ∧
      (y.overCount ≠ y.tripDelay ∨ BranchBusy s b → (withBranch s b y).tripTest b = withBranch s b y) := by
  have idle : (withBranch s b y).branchActionPending b = false ↔ ¬ BranchBusy s b := by
    rw [← withBranch_busy, ← State.branchActionPending_iff, Bool.not_eq_true]
  unfold State.tripTest
  rw [withBranch_branch]
  exact ⟨fun due free => if_pos ⟨due, idle.mpr free⟩,
    fun notDue => if_neg fun ⟨due, free⟩ => notDue.elim (· due) (idle.mp free)⟩

/-- What TRIPPING waits for (R128). -/
theorem withBranch_tripFinished :
    (withBranch s b x).tripFinished b = true ↔
      ∀ o, x.tripped = some o → ¬ BranchActionFor s o ∧ (s.outlet o).countdown = 0 := by
  unfold State.tripFinished
  rw [withBranch_branch]
  cases x.tripped with
  | none => simp
  | some o =>
    have pending : (withBranch s b x).branchPending o = true ↔ BranchActionFor s o := State.branchPending_iff
    simp only [Bool.and_eq_true, Bool.not_eq_true', ← Bool.not_eq_true, pending, beq_iff_eq, Option.some.injEq,
      forall_eq']
    rfl

/-! ### The state step -/

theorem stepBranchState_of_normal (h : x.state = .normal) :
    (withBranch s b x).stepBranchState b =
      if x.limit < x.current then (withBranch s b { x with state := .overload, overCount := 1 }).tripTest b
      else withBranch s b x := by
  simp only [State.stepBranchState, withBranch_branch, withBranch_setBranch, h, decide_eq_true_eq]

theorem stepBranchState_of_shed (h : x.state = .shed) :
    (withBranch s b x).stepBranchState b =
      if x.limit < x.current then
        (withBranch s b { x with state := .overload, overCount := 1, holdCount := 0 }).tripTest b
      else if branchShed s b = 0 then withBranch s b { x with state := .normal, holdCount := 0 }
      else (withBranch s b x).branchRestoreTest b := by
  simp only [State.stepBranchState, withBranch_branch, withBranch_setBranch, h, decide_eq_true_eq, withBranch_shedCount]

theorem stepBranchState_of_overload (h : x.state = .overload) :
    (withBranch s b x).stepBranchState b =
      if x.limit < x.current then
        (withBranch s b { x with overCount := min (x.overCount + 1) x.tripDelay }).tripTest b
      else withBranch s b { x with
        state := if branchShed s b = 0 then .normal else .shed, overCount := 0, unprotectable := false } := by
  simp only [State.stepBranchState, withBranch_branch, withBranch_setBranch, h, decide_eq_true_eq,
    withBranch_restState]

theorem stepBranchState_of_tripping (h : x.state = .tripping) :
    (withBranch s b x).stepBranchState b =
      if (withBranch s b x).tripFinished b = false then withBranch s b x
      else if x.limit < x.current then
        withBranch s b { x with state := .overload, overCount := x.tripDelay, tripped := none }
      else if branchShed s b = 0 then
        withBranch s b { x with state := .normal, overCount := 0, tripped := none, unprotectable := false }
      else
        (withBranch s b { x with
          state := .shed, overCount := 0, tripped := none, unprotectable := false }).branchRestoreTest b := by
  simp only [State.stepBranchState, State.stepTripping, withBranch_branch, withBranch_setBranch, h,
    decide_eq_true_eq, withBranch_restState, Bool.not_eq_true']
  split
  · rfl
  · split
    · rfl
    · by_cases noneShed : branchShed s b = 0
      · simp [noneShed]
      · simp [noneShed]

/-! ### The completion -/

theorem exec_brmSweepCompletion (held : s.resetHeld = false) (waits : 0 < s.brm.sweeps) (pins : Contacts) :
    exec (.brmSweepCompletion pins) s = .next
      ((List.finRange 6).foldl (fun u b => u.stepBranch b)
        { s with contacts := pins, brm := { s.brm with sweeps := s.brm.sweeps - 1 } }) := by
  rw [exec, execBrmSweepCompletion, unlessHeld_free held]
  exact congrArg _ (if_neg waits.ne')

theorem exec_brmSweepCompletion_none (held : s.resetHeld = false) (none : s.brm.sweeps = 0) (pins : Contacts) :
    exec (.brmSweepCompletion pins) s = .next { s with contacts := pins } := by
  rw [exec, execBrmSweepCompletion, unlessHeld_free held]
  exact congrArg _ (if_pos none)

/-- Settles O48: the completion's two cases, then a branch's turn by its state and its current. -/
theorem branchStateFollowsCurrent : Obligations.BranchStateFollowsCurrent := by
  refine ⟨fun s pins held => ⟨fun none => exec_brmSweepCompletion_none held none pins,
    fun waits => exec_brmSweepCompletion held waits pins⟩, fun s b => ?_⟩
  intro x isOver tested finished
  have turn : s.stepBranch b = (withBranch s b x).stepBranchState b := s.stepBranch_eq b
  have current : currentOf s b = x.current := rfl
  have waits : (withBranch s b x).tripFinished b = false ↔ ¬ finished := by
    rw [← Bool.not_eq_true, withBranch_tripFinished]
  have test {y : Branch} (h : s.stepBranch b = (withBranch s b y).tripTest b) : tested y := by
    obtain ⟨due, notDue⟩ := withBranch_tripTest s b y
    exact ⟨fun atDelay idle => h.trans (due atDelay idle), fun waiting => h.trans (notDue waiting)⟩
  clear_value x
  have above (h : isOver) : x.limit < x.current := current ▸ h
  have below (h : ¬ isOver) : ¬ x.limit < x.current := current ▸ h
  refine ⟨fun h => ?_, fun h => ?_, fun h => ?_, fun h => ?_⟩
  · have step := turn.trans (stepBranchState_of_normal h)
    exact ⟨fun hi => test (step.trans (if_pos (above hi))), fun lo => step.trans (if_neg (below lo))⟩
  · have step := turn.trans (stepBranchState_of_shed h)
    refine ⟨fun hi => test (step.trans (if_pos (above hi))), fun lo noneShed => ?_, fun lo someShed => ?_⟩
    · rw [step, if_neg (below lo), if_pos noneShed]
    · rw [step, if_neg (below lo), if_neg someShed]
  · have step := turn.trans (stepBranchState_of_overload h)
    exact ⟨fun hi => test (step.trans (if_pos (above hi))), fun lo => step.trans (if_neg (below lo))⟩
  · have step := turn.trans (stepBranchState_of_tripping h)
    have goesOn (done : finished) := step.trans (if_neg fun e => waits.mp e done)
    refine ⟨fun waiting => step.trans (if_pos (waits.mpr waiting)), fun done hi => ?_, fun done lo noneShed => ?_,
      fun done lo someShed => ?_⟩
    · rw [goesOn done, if_pos (above hi)]
    · rw [goesOn done, if_neg (below lo), if_pos noneShed]
    · rw [goesOn done, if_neg (below lo), if_neg someShed]

end Sys2Proof.Machine
end

section
/-! The Relay Sequencer's operations on records, lanes and notices, each by the state it leaves (R17, R33,
R137 to R145). -/

namespace Sys2Proof.Machine

open Sys2Proof.Claims

variable {s : State} {a : Action}

/-! ### Records -/

theorem ActionKind.target_eq (k : ActionKind) : k.target = targetOf k := by
  cases k with
  | openRelay => rfl
  | closeRelay => rfl
  | rearm => rfl

theorem Outlet.adopt_eq (x : Outlet) (p : Position) : x.adopt p = adoptedAs x p := by
  cases p with
  | closed => rfl
  | opened => rfl

/-- A closing draw cleared on a condition: the remembered draw alone is asked after (R9). -/
theorem Outlet.clearClosing_if (x : Outlet) (c : Prop) [Decidable c] :
    (if c then x.clearClosing else x) =
      { x with remembered := if c ∧ x.reason = .none then none else x.remembered } := by
  unfold Outlet.clearClosing
  by_cases hc : c
  · by_cases hr : x.reason = .none
    · rw [if_pos hc, if_pos hr, if_pos ⟨hc, hr⟩]
    · rw [if_pos hc, if_neg hr, if_neg fun h => hr h.2]
  · rw [if_neg hc, if_neg fun h => hc h.1]

/-- The record of an OPEN or CLOSE retired DONE (R139). -/
theorem Outlet.actionDone_eq (x : Outlet) (kind : ActionKind) (sweeps : Nat) :
    x.actionDone kind sweeps = { x with
      feedback := targetOf kind
      countdown := sweeps
      direction := some (targetOf kind)
      remembered := if kind = .closeRelay ∧ sweeps = 0 ∧ x.reason = .none then none else x.remembered } := by
  unfold Outlet.actionDone
  simp only [Outlet.clearClosing_if, Outlet.settle, ActionKind.target_eq, and_assoc]

/-- The record of an OPEN or CLOSE retired FEEDBACK_TIMEOUT (R140). -/
theorem Outlet.actionTimedOut_eq (x : Outlet) (kind : ActionKind) (p : Position) :
    x.actionTimedOut kind p = { x with
      feedback := p
      actuator := .faulted
      remembered := if kind = .closeRelay ∧ x.reason = .none then none else x.remembered } := by
  unfold Outlet.actionTimedOut
  simp only [Outlet.clearClosing_if]

/-! ### Retirements -/

theorem State.raiseDone_eq (stamp : Nat) (s : State) (a : Action) (c : Completion) :
    s.raiseDone stamp a c =
      { s with nq := raisedAll s.station stamp [.actionDone a.outlet a.kind a.origin c] s.nq } :=
  s.raiseAt_eq _ _

/-- The stagger timer starts when a CLOSE is retired, and only then (R137). -/
theorem State.staggered_eq (s : State) (k : ActionKind) :
    (if k = .closeRelay then s.startStagger else s) =
      { s with rsq := { s.rsq with stagger := if k = .closeRelay then staggerOf s else s.rsq.stagger } } := by
  split
  · rfl
  · rfl

theorem State.retireDone_eq (s : State) (a : Action) : s.retireDone a = retiredDone s a := by
  unfold State.retireDone
  simp only [State.staggered_eq, State.raiseDone_eq, Outlet.actionDone_eq]
  rfl

theorem State.retireTimeout_eq (s : State) (a : Action) : s.retireTimeout a = retiredTimeout s a := by
  unfold State.retireTimeout
  simp only [State.staggered_eq, State.raiseDone_eq, State.raise_eq, Outlet.actionTimedOut_eq]
  rfl

/-- A retirement OUTLET_FAULTED clears the closing draw of a CLOSE and raises its ACTION_DONE (R143). -/
theorem State.retireFaulted_eq (stamp : Nat) (s : State) (a : Action) :
    s.retireFaulted stamp a = retiredFaulted stamp s a s.rsq.urgent s.rsq.standard := by
  have record : (if a.kind = .closeRelay then s.setOutlet a.outlet (s.outlet a.outlet).clearClosing else s) =
      s.setOutlet a.outlet (if a.kind = .closeRelay then (s.outlet a.outlet).clearClosing else s.outlet a.outlet) := by
    split
    · rfl
    · exact (s.setOutlet_self a.outlet).symm
  unfold State.retireFaulted
  simp only [record, Outlet.clearClosing_if, State.raiseDone_eq]
  rfl

theorem State.completeRearm_eq (stamp : Nat) (s : State) (a : Action) :
    s.completeRearm stamp a = rearmed stamp s a s.rsq.urgent s.rsq.standard := by
  unfold State.completeRearm
  simp only [State.raiseDone_eq, Outlet.adopt_eq]
  rfl

end Sys2Proof.Machine
end

section
/-! The choice of the next action by its head (R136, R137): what it takes, and what it leaves of each kind of head. -/

namespace Sys2Proof.Machine

open Sys2Proof.Claims

variable {s : State} {a : Action} {stamp : Nat} {urgent standard : List Action}

/-! ### What is taken -/

theorem State.waits_iff :
    s.waits a = true ↔
      a.kind = .closeRelay ∧ (s.outlet a.outlet).actuator = .enabled ∧ s.rsq.stagger ≠ none := by
  simp only [State.waits, Bool.and_eq_true, beq_iff_eq, Option.isSome_iff_ne_none, and_assoc]

/-- An action stands at the front: the urgent head, or, with the urgent lane empty, a standard head that does not wait
(R136); these are the lanes behind it. -/
def State.InFront (s : State) (a : Action) (urgent standard : List Action) : Prop :=
  s.rsq.urgent = a :: urgent ∧ s.rsq.standard = standard ∨
    s.rsq.urgent = [] ∧ urgent = [] ∧ s.rsq.standard = a :: standard ∧
      ¬ (a.kind = .closeRelay ∧ (s.outlet a.outlet).actuator = .enabled ∧ s.rsq.stagger ≠ none)

theorem State.InFront.takeNext (h : s.InFront a urgent standard) :
    s.takeNext = some (a, { s.rsq with urgent := urgent, standard := standard }) := by
  unfold State.takeNext
  rcases h with ⟨hu, rfl⟩ | ⟨hu, rfl, hs, ready⟩
  · rw [hu]
  · rw [hu, hs]
    dsimp only
    rw [if_neg fun waits => ready (State.waits_iff.mp waits), hu]

/-- The turns of the choice are one more than those left after the front action is taken. -/
theorem State.InFront.length (h : s.InFront a urgent standard) :
    s.rsq.urgent.length + s.rsq.standard.length = urgent.length + standard.length + 1 := by
  rcases h with ⟨hu, rfl⟩ | ⟨hu, rfl, hs, -⟩
  · rw [hu, List.length_cons]
    omega
  · rw [hu, hs, List.length_cons, List.length_nil]
    omega

/-! ### The choice -/

theorem State.chooseAt_of_inFlight (h : s.rsq.inFlight ≠ none) (stamp : Nat) : s.chooseAt stamp = s := by
  unfold State.chooseAt
  cases s.rsq.urgent.length + s.rsq.standard.length with
  | zero => rfl
  | succ n => exact if_pos (Option.isSome_iff_ne_none.mpr h)

theorem State.chooseAt_of_takeNext_none (h : s.takeNext = none) (stamp : Nat) : s.chooseAt stamp = s := by
  unfold State.chooseAt
  cases s.rsq.urgent.length + s.rsq.standard.length with
  | zero => rfl
  | succ n =>
    rw [chooseUpTo, h]
    exact ite_self s

/-- The front action leaves its lane, and is completed, retired or started (R136, R143, R145). -/
theorem State.chooseAt_of_front (idle : s.rsq.inFlight = none) (h : s.InFront a urgent standard) (stamp : Nat) :
    let u : State := { s with rsq := { s.rsq with urgent := urgent, standard := standard } }
    s.chooseAt stamp =
      if a.kind = .rearm then (rearmed stamp s a urgent standard).chooseAt stamp
      else if (s.outlet a.outlet).actuator = .faulted then (retiredFaulted stamp s a urgent standard).chooseAt stamp
      else u.startAction a := by
  intro u
  rw [State.chooseAt, h.length, chooseUpTo, idle, h.takeNext, Option.isSome_none, if_neg Bool.false_ne_true]
  dsimp only
  rw [State.completeRearm_eq, State.retireFaulted_eq]
  rfl

theorem State.startAction_eq :
    ({ s with rsq := { s.rsq with urgent := urgent, standard := standard } } : State).startAction a =
      started s a urgent standard := by
  unfold State.startAction started
  rw [ActionKind.target_eq]
  rfl

theorem exec_staggerTimerExpiry (held : s.resetHeld = false) (pins : Contacts) :
    exec (.staggerTimerExpiry pins) s = .next
      (if s.rsq.stagger = none then s.withPins pins
      else ({ s with contacts := pins, rsq := { s.rsq with stagger := none } } : State).choose) := by
  rw [exec, execStaggerTimerExpiry, unlessHeld_free held]
  cases h : s.rsq.stagger with
  | none => simp [h]
  | some n => simp [h, State.withPins]

/-- Settles O51: the choices that take nothing, then the front action by its kind and its outlet's standing. -/
theorem choiceTakesTheHead : Obligations.ChoiceTakesTheHead := by
  refine ⟨fun s pins held => ⟨fun stopped => ?_, fun running => ?_⟩, fun _ => rfl, fun s n => ⟨fun busy => ?_,
    fun hu hs => ?_, fun a rest _ hu hs close enabled stagger => ?_, fun a urgent standard idle front => ?_⟩⟩
  · exact (exec_staggerTimerExpiry held pins).trans (congrArg _ (if_pos stopped))
  · exact (exec_staggerTimerExpiry held pins).trans (congrArg _ (if_neg running))
  · exact State.chooseAt_of_inFlight busy n
  · refine State.chooseAt_of_takeNext_none ?_ n
    rw [State.takeNext, hu, hs]
  · refine State.chooseAt_of_takeNext_none ?_ n
    rw [State.takeNext, hu, hs]
    exact if_pos (State.waits_iff.mpr ⟨close, enabled, stagger⟩)
  · have turn := State.chooseAt_of_front idle front n
    refine ⟨fun rearm => turn.trans (if_pos rearm), fun drives faulted => ?_, fun drives enabled => ?_⟩
    · rw [turn, if_neg drives, if_pos faulted]
    · rw [turn, if_neg drives, if_neg (by rw [enabled]; exact nofun), State.startAction_eq]

end Sys2Proof.Machine
end

section
/-! The ends of an operation and of a left-over pulse (R138 to R140, R146, R147; log entries 19 and 20). -/

namespace Sys2Proof.Machine

open Sys2Proof.Claims

variable {s : State} {f : InFlight} {pins : Contacts}

/-! ### The contact sensed -/

theorem getLsbD_setContact (c : Contacts) (o i : OutletIx) (p : Position) :
    (setContact c o p).getLsbD i.val = if i = o then decide (p = .closed) else c.getLsbD i.val := by
  have bit : (1#48 <<< o.val).getLsbD i.val = decide (i = o) := by
    rw [← BitVec.twoPow_eq, BitVec.getLsbD_twoPow, decide_eq_true o.isLt, Bool.true_and]
    exact decide_eq_decide.mpr (eq_comm.trans Fin.ext_iff.symm)
  cases p with
  | closed =>
    rw [setContact, BitVec.getLsbD_or, bit]
    by_cases h : i = o <;> simp [h]
  | opened =>
    rw [setContact, BitVec.getLsbD_and, BitVec.getLsbD_not, bit, decide_eq_true i.isLt]
    by_cases h : i = o <;> simp [h]

/-- The levels with one contact at a position are known by their bits. -/
theorem setContact_eq {c : Contacts} {o : OutletIx} {p : Position}
    (h : ∀ i : OutletIx, c.getLsbD i.val = if i = o then decide (p = .closed) else pins.getLsbD i.val) :
    setContact pins o p = c :=
  BitVec.eq_of_getLsbD_eq fun i hi => (getLsbD_setContact pins o ⟨i, hi⟩ p).trans (h ⟨i, hi⟩).symm

/-- The target has been seen, or is sensed now. -/
abbrev State.targetShown (s : State) (f : InFlight) : Prop :=
  f.targetSeen = true ∨ s.sensed f.action.outlet = targetOf f.action.kind

theorem State.targetShown_iff (s : State) (f : InFlight) :
    (f.targetSeen || s.sensed f.action.outlet == f.action.kind.target) = true ↔ s.targetShown f := by
  rw [Bool.or_eq_true, beq_iff_eq, ActionKind.target_eq]

theorem State.not_targetShown (unseen : f.targetSeen = false)
    (away : s.sensed f.action.outlet ≠ targetOf f.action.kind) : ¬ s.targetShown f :=
  fun shown => shown.elim (fun seen => by simp [unseen] at seen) away

/-! ### The events -/

/-- The action in flight with its record rewritten. -/
def State.withInFlight (s : State) (f : InFlight) : State := { s with rsq := { s.rsq with inFlight := some f } }

theorem exec_feedbackTargetSensed_idle (held : s.resetHeld = false) (idle : s.rsq.inFlight = none) :
    exec (.feedbackTargetSensed pins) s = .next (s.withPins pins) := by
  rw [exec, execFeedbackTargetSensed, unlessHeld_free held, idle]

theorem exec_feedbackTargetSensed (held : s.resetHeld = false) (hf : s.rsq.inFlight = some f) :
    let seen := s.withPins (setContact pins f.action.outlet (targetOf f.action.kind))
    exec (.feedbackTargetSensed pins) s = .next
      (if f.pulse = none then (retiredDone seen f.action).choose
      else seen.withInFlight { f with targetSeen := true }) := by
  rw [exec, execFeedbackTargetSensed, unlessHeld_free held, hf]
  dsimp only
  rw [ActionKind.target_eq, State.retireDone_eq]
  cases f.pulse with
  | none => rfl
  | some n => rfl

theorem exec_coilPulseEnd_idle (held : s.resetHeld = false) (idle : s.rsq.inFlight = none) :
    exec (.coilPulseEnd pins) s = .next (s.withPins pins) := by
  rw [exec, execCoilPulseEnd, unlessHeld_free held]
  dsimp only
  rw [State.withPins_rsq, idle]

theorem exec_coilPulseEnd (held : s.resetHeld = false) (hf : s.rsq.inFlight = some f) :
    exec (.coilPulseEnd pins) s = .next
      (if f.pulse = none then s.withPins pins
      else if (s.withPins pins).targetShown f then (retiredDone (s.withPins pins) f.action).choose
      else (s.withPins pins).withInFlight { f with pulse := none }) := by
  rw [exec, execCoilPulseEnd, unlessHeld_free held]
  dsimp only
  rw [State.withPins_rsq, hf]
  simp only [State.targetShown_iff, State.retireDone_eq, Option.isNone_iff_eq_none]
  rfl

theorem exec_feedbackWindowTimeout_idle (held : s.resetHeld = false) (idle : s.rsq.inFlight = none) :
    exec (.feedbackWindowTimeout pins) s = .next (s.withPins pins) := by
  rw [exec, execFeedbackWindowTimeout, unlessHeld_free held]
  dsimp only
  rw [State.withPins_rsq, idle]

theorem exec_feedbackWindowTimeout (held : s.resetHeld = false) (hf : s.rsq.inFlight = some f) :
    exec (.feedbackWindowTimeout pins) s = .next
      (if (s.withPins pins).targetShown f then
        if f.pulse = none then (retiredDone (s.withPins pins) f.action).choose
        else (s.withPins pins).withInFlight { f with targetSeen := true }
      else (retiredTimeout (s.withPins pins) f.action).choose) := by
  rw [exec, execFeedbackWindowTimeout, unlessHeld_free held]
  dsimp only
  rw [State.withPins_rsq, hf]
  simp only [State.targetShown_iff, State.retireDone_eq, State.retireTimeout_eq]
  cases f.pulse with
  | none => rfl
  | some n => rfl

theorem exec_pulseEndAdoption (held : s.resetHeld = false) (o : OutletIx) (pins : Contacts) :
    let x := { s.outlet o with residualPulse := none }
    exec (.pulseEndAdoption o pins) s = .next
      (if (s.outlet o).residualPulse = none then s.withPins pins
      else (s.withPins pins).setOutlet o
        (if s.mpt.phase = .config then x else adoptedAs x ((s.withPins pins).sensed o))) := by
  intro x
  rw [exec, execPulseEndAdoption, unlessHeld_free held]
  simp only [Option.isNone_iff_eq_none, Outlet.adopt_eq]
  rfl

/-- Settles O52: each event by the pulse and by whether the target has been shown. -/
theorem operationsAreRetired : Obligations.OperationsAreRetired := by
  refine ⟨fun s pins held => ⟨fun idle => ⟨exec_feedbackTargetSensed_idle held idle, exec_coilPulseEnd_idle held idle,
    exec_feedbackWindowTimeout_idle held idle⟩, fun f hf => ?_⟩, fun s pins o held => ?_⟩
  · have sensed := exec_feedbackTargetSensed (pins := pins) held hf
    have pulseEnd := exec_coilPulseEnd (pins := pins) held hf
    have windowEnd := exec_feedbackWindowTimeout (pins := pins) held hf
    refine ⟨fun c levels => ?_, fun ended => ?_, fun driven shown => ?_, fun driven unseen away => ?_,
      fun shown => ⟨fun ended => ?_, fun driven => ?_⟩, fun unseen away => ?_⟩
    · rw [setContact_eq levels] at sensed
      exact ⟨fun ended => sensed.trans (congrArg _ (if_pos ended)),
        fun driven => sensed.trans (congrArg _ (if_neg driven))⟩
    · exact pulseEnd.trans (congrArg _ (if_pos ended))
    · exact pulseEnd.trans (congrArg _ ((if_neg driven).trans (if_pos shown)))
    · exact pulseEnd.trans (congrArg _ ((if_neg driven).trans (if_neg (State.not_targetShown unseen away))))
    · exact windowEnd.trans (congrArg _ ((if_pos shown).trans (if_pos ended)))
    · exact windowEnd.trans (congrArg _ ((if_pos shown).trans (if_neg driven)))
    · exact windowEnd.trans (congrArg _ (if_neg (State.not_targetShown unseen away)))
  · have ended := exec_pulseEndAdoption held o pins
    refine ⟨fun none => ?_, fun running config => ?_, fun running entered => ?_⟩
    · exact ended.trans (congrArg _ (if_pos none))
    · refine ended.trans (congrArg _ ((if_neg running).trans ?_))
      rw [if_pos config]
      rfl
    · refine ended.trans (congrArg _ ((if_neg running).trans ?_))
      rw [if_neg entered]
      rfl

end Sys2Proof.Machine
end

section
/-! MISMATCH_CHECK: every outlet with no action in flight is sensed once, in ascending order (R142). -/

namespace Sys2Proof.Machine

open Sys2Proof.Claims

variable {s : State} {o : OutletIx}

/-! ### One outlet -/

theorem Rsq.inFlightFor_isSome_iff {q : Rsq} :
    (q.inFlightFor o).isSome = true ↔ ∃ f, q.inFlight = some f ∧ f.action.outlet = o := by
  unfold Rsq.inFlightFor
  cases q.inFlight with
  | none => simp
  | some f => by_cases h : f.action.outlet = o <;> simp [h]

/-- With nothing in flight for the outlet, what is pending for it is what is queued. -/
theorem State.pendingFor_of_grounded (grounded : s.rsq.inFlightFor o = none) :
    s.pendingFor o = (s.rsq.queuedFor o).map fun a => ⟨a, false⟩ := by
  simp [State.pendingFor, grounded]

/-- The check finds the outlet away from where it is expected. -/
def State.strays (s : State) (o : OutletIx) : Bool :=
  (s.outlet o).actuator == .enabled && (s.expected o).any fun p => p != s.sensed o

/-- Nothing pending expects the commanded state, a queued OPEN or CLOSE the recorded feedback, a REARM nothing. -/
theorem State.strays_iff (grounded : s.rsq.inFlightFor o = none) :
    s.strays o = true ↔ FoundAway s o (s.sensed o) := by
  rw [State.strays, Bool.and_eq_true, beq_iff_eq]
  refine and_congr_right fun _ => ?_
  have pending := s.pendingFor_of_grounded grounded
  cases queued : s.rsq.queuedFor o with
  | none =>
    rw [queued] at pending
    simp only [State.expected, pending, Option.map_none, Option.any_some, bne_iff_ne, reduceCtorEq, false_and,
      exists_false, or_false, true_and]
    exact ne_comm
  | some a =>
    rw [queued] at pending
    by_cases rearm : a.kind = .rearm
    · simp [State.expected, pending, rearm]
    · simp only [State.expected, pending, Option.map_some, rearm, if_false, Option.any_some, bne_iff_ne, reduceCtorEq,
        false_and, false_or, Option.some.injEq, Pending.mk.injEq, and_true, exists_eq_left', ne_eq, not_false_eq_true,
        true_and]
      exact ne_comm

/-- The record the check leaves of an outlet. -/
def State.checked (s : State) (o : OutletIx) : Outlet :=
  if (s.rsq.inFlightFor o).isSome then s.outlet o
  else
    { s.outlet o with
      feedback := s.sensed o
      actuator := if s.strays o then .faulted else (s.outlet o).actuator }

theorem State.checked_inFlight (h : ∃ f, s.rsq.inFlight = some f ∧ f.action.outlet = o) :
    s.checked o = s.outlet o := if_pos (Rsq.inFlightFor_isSome_iff.mpr h)

theorem State.checked_grounded (h : ¬ ∃ f, s.rsq.inFlight = some f ∧ f.action.outlet = o) :
    (FoundAway s o (s.sensed o) →
      s.checked o = { s.outlet o with feedback := s.sensed o, actuator := .faulted }) ∧
    (¬ FoundAway s o (s.sensed o) → s.checked o = { s.outlet o with feedback := s.sensed o }) := by
  have flight : ¬ (s.rsq.inFlightFor o).isSome = true := fun e => h (Rsq.inFlightFor_isSome_iff.mp e)
  have away := State.strays_iff (by simpa using flight)
  unfold State.checked
  rw [if_neg flight]
  exact ⟨fun strays => by rw [if_pos (away.mpr strays)], fun found => by rw [if_neg fun e => found (away.mp e)]⟩

/-- The notice of an outlet whose record turns from ENABLED to FAULTED. -/
def strayNotice (o : OutletIx) (old new : Outlet) : Option NoticeBody :=
  if old.actuator = .enabled ∧ new.actuator = .faulted then some (.outletFault o .spontaneous) else none

theorem strayNotice_of_same {old new : Outlet} (h : new.actuator = old.actuator) : strayNotice o old new = none :=
  if_neg fun ⟨enabled, faulted⟩ => by simp [enabled, faulted] at h

theorem State.checkOutlet_eq (s : State) (o : OutletIx) :
    s.checkOutlet o =
      { s.setOutlet o (s.checked o) with nq := raised s (strayNotice o (s.outlet o) (s.checked o)).toList } := by
  unfold State.checkOutlet State.checked
  split
  · rw [State.setOutlet_self, strayNotice_of_same rfl]
    rfl
  · by_cases strays : s.strays o = true
    · have away := strays
      rw [State.strays, Bool.and_eq_true, beq_iff_eq] at away
      rw [if_pos strays, if_pos away, State.raise_eq, strayNotice, if_pos ⟨away.1, rfl⟩]
      rfl
    · have near := strays
      rw [State.strays, Bool.and_eq_true, beq_iff_eq] at near
      rw [if_neg strays, if_neg near, strayNotice_of_same]
      · rfl
      · rfl

theorem State.outlet_checkOutlet_self (s : State) (o : OutletIx) : (s.checkOutlet o).outlet o = s.checked o := by
  rw [State.checkOutlet_eq]
  exact s.outlet_setOutlet_self o _

theorem State.outlet_checkOutlet_ne {i : OutletIx} (h : i ≠ o) : (s.checkOutlet o).outlet i = s.outlet i := by
  rw [State.checkOutlet_eq]
  exact s.outlet_setOutlet_ne h.symm _

/-- The check of an outlet reads no other outlet's record, and no notice. -/
theorem State.checked_congr {t : State} (outlet : t.outlet o = s.outlet o) (rsq : t.rsq = s.rsq)
    (contacts : t.contacts = s.contacts) : t.checked o = s.checked o := by
  unfold State.checked State.strays State.expected State.pendingFor State.sensed
  rw [outlet, rsq, contacts]

theorem State.checked_checkOutlet {i : OutletIx} (h : i ≠ o) : (s.checkOutlet o).checked i = s.checked i :=
  State.checked_congr (State.outlet_checkOutlet_ne h) (by rw [State.checkOutlet_eq]; rfl)
    (by rw [State.checkOutlet_eq]; rfl)

/-! ### All the outlets -/

theorem State.outlet_foldl_checkOutlet (s : State) (o : OutletIx) :
    (allOutlets.foldl State.checkOutlet s).outlet o = s.checked o := by
  have each := foldl_worked (get := State.outlet) (f := State.checkOutlet) (work := State.checked)
    State.outlet_checkOutlet_self (fun _ _ _ => State.outlet_checkOutlet_ne) (fun _ _ _ => State.checked_checkOutlet)
    allOutlets (List.nodup_finRange 48) s o
  exact each.trans (if_pos (List.mem_finRange o))

/-- The outlets and the notices alone change, the notices in the order of the turns. -/
theorem foldl_checkOutlet_frame (l : List OutletIx) (distinct : l.Nodup) (s : State) :
    ∃ outlets, l.foldl State.checkOutlet s = { s with
      outlets := outlets
      nq := raised s (l.filterMap fun o => strayNotice o (s.outlet o) (s.checked o)) } := by
  induction l generalizing s with
  | nil => exact ⟨s.outlets, rfl⟩
  | cons o l ih =>
    obtain ⟨other, distinct⟩ := List.nodup_cons.mp distinct
    obtain ⟨outlets, rest⟩ := ih distinct (s.checkOutlet o)
    have later : (l.filterMap fun i => strayNotice i ((s.checkOutlet o).outlet i) ((s.checkOutlet o).checked i)) =
        l.filterMap fun i => strayNotice i (s.outlet i) (s.checked i) := by
      refine List.filterMap_congr fun i hi => ?_
      have hio : i ≠ o := fun e => other (e ▸ hi)
      rw [State.outlet_checkOutlet_ne hio, State.checked_checkOutlet hio]
    refine ⟨outlets, ?_⟩
    rw [List.foldl_cons, rest, later, ← List.singleton_append, List.filterMap_append, raised_append,
      State.checkOutlet_eq, List.filterMap_cons]
    cases h : strayNotice o (s.outlet o) (s.checked o) with
    | none => rfl
    | some b => rfl

/-- The state on which the check of the outlets begins: the contacts sensed, a completion taken. -/
def State.checkStart (s : State) (pins : Contacts) : State :=
  { s with contacts := pins, rsq := { s.rsq with sweeps := s.rsq.sweeps - 1 } }

theorem exec_mismatchCheck (held : s.resetHeld = false) (pins : Contacts) :
    exec (.mismatchCheck pins) s = .next
      (if s.rsq.sweeps = 0 then s.withPins pins else allOutlets.foldl State.checkOutlet (s.checkStart pins)) := by
  rw [exec, execMismatchCheck, unlessHeld_free held]
  rfl

/-- Settles O53: the completion taken, then each outlet's record, its notice in its turn. -/
theorem mismatchCheckFaultsStrays : Obligations.MismatchCheckFaultsStrays := by
  intro s pins held seen
  have run := exec_mismatchCheck held pins
  refine ⟨fun none => run.trans (congrArg _ (if_pos none)), fun waits => ?_⟩
  let u := s.checkStart pins
  obtain ⟨outlets, frame⟩ := foldl_checkOutlet_frame allOutlets (List.nodup_finRange 48) u
  have records := u.outlet_foldl_checkOutlet
  rw [frame] at records
  refine ⟨_, run.trans (congrArg _ ((if_neg waits.ne').trans frame)), ?_, fun o => ⟨fun flies => ?_,
    fun grounded => ⟨fun away => ?_, fun found => ?_⟩⟩⟩
  · simp only [records]
    rfl
  · exact (records o).trans (State.checked_inFlight (s := u) flies)
  · exact (records o).trans ((State.checked_grounded (s := u) grounded).1 away)
  · exact (records o).trans ((State.checked_grounded (s := u) grounded).2 found)

end Sys2Proof.Machine
end

section
/-! REARM: an accepted one flushes what is queued for its outlet and joins the standard lane (R144, R170). -/

namespace Sys2Proof.Machine

open Sys2Proof.Claims

variable {s : State} {o : OutletIx} {a : Action}

/-! ### The request -/

/-- With nothing pending, a REARM is a question of room (R144). -/
theorem State.rearmFaulted_free (h : s.pendingFor o = none) :
    s.rearmFaulted o = if s.rsq.standard.length < 32 then s.acceptRearm o else s.refuse 50 .queueFull := by
  simp only [State.rearmFaulted, h, Rsq.hasRoom, decide_eq_true_eq]
  rfl

theorem State.rearmFaulted_merged {p : Pending} (h : s.pendingFor o = some p) (rearm : p.action.kind = .rearm) :
    s.rearmFaulted o = s.reply 50 .ok [] := by
  simp only [State.rearmFaulted, h, rearm, if_true]

/-- An OPEN or CLOSE of the standard lane makes its own room (R144). -/
theorem State.rearmFaulted_over {p : Pending} (h : s.pendingFor o = some p) (drives : p.action.kind ≠ .rearm) :
    s.rearmFaulted o =
      if s.rsq.standard.length < 32 + (if p.action.lane = .standard then 1 else 0) then s.acceptRearm o
      else s.refuse 50 .queueFull := by
  simp only [State.rearmFaulted, h, drives, if_false, Rsq.hasRoom, decide_eq_true_eq]
  rfl

/-! ### The request accepted -/

/-- Nothing queued for the outlet: the REARM joins the standard lane. -/
theorem State.acceptRearm_free (h : s.rsq.queuedFor o = none) :
    s.acceptRearm o =
      ((({ s with rsq := { s.rsq with standard := s.rsq.standard ++ [s.manualAction o .rearm] } } : State).choose).reply
        50 .ok []) := by
  obtain ⟨urgent, standard⟩ := Rsq.queuedFor_eq_none_iff.mp h
  have queued : s.rsq.allQueuedFor o = [] := by
    rw [Rsq.allQueuedFor, List.filter_eq_nil_iff]
    intro c hc
    rcases List.mem_append.mp hc with hc | hc
    · simpa using urgent c hc
    · simpa using standard c hc
  have lane : (s.manualAction o .rearm).lane = .standard := Action.lane_manual ..
  unfold State.acceptRearm
  dsimp only
  rw [queued, List.foldl_nil, Rsq.append_standard _ lane, Rsq.remove, filter_outlet_eq_self urgent,
    filter_outlet_eq_self standard]

/-- One action queued for the outlet: it is retired OUTLET_FAULTED at once, and the REARM joins the standard lane. -/
theorem State.acceptRearm_over (h : s.rsq.allQueuedFor o = [a]) :
    s.acceptRearm o =
      (({ s with
        outlets := s.outlets.set o.val
          (if a.kind = .closeRelay ∧ (s.outlet o).reason = .none then { s.outlet o with remembered := none }
          else s.outlet o)
        rsq := { s.rsq with
          urgent := s.rsq.urgent.filter fun c => c.outlet != o
          standard := (s.rsq.standard.filter fun c => c.outlet != o) ++ [s.manualAction o .rearm] }
        nq := raised s [.actionDone o a.kind a.origin .outletFaulted] } : State).choose).reply 50 .ok [] := by
  obtain rfl : a.outlet = o := by
    have own : a ∈ s.rsq.allQueuedFor o := h ▸ List.mem_singleton_self a
    simpa using (List.mem_filter.mp own).2
  have lane : (s.manualAction a.outlet .rearm).lane = .standard := Action.lane_manual ..
  let x := s.outlet a.outlet
  have record : (if a.kind = .closeRelay ∧ x.reason = .none then { x with remembered := none } else x) =
      { x with remembered := if a.kind = .closeRelay ∧ x.reason = .none then none else x.remembered } := by
    split
    · rfl
    · rfl
  unfold State.acceptRearm
  dsimp only
  rw [h, List.foldl_cons, List.foldl_nil, State.retireFaulted_eq, Rsq.append_standard _ lane, record]
  rfl

theorem exec_rearm {b : Byte} {more : List Byte} {pins : Contacts} (held : s.resetHeld = false)
    (hp : s.mpt.phase = .run) (ho : o.val = b.toNat) :
    exec (.rearm ⟨[b], more⟩ pins) s = .next
      (if (s.outlet o).actuator = .enabled then (s.commandStart ⟨[b], more⟩ pins).refuse 50 .wrongState
      else (s.commandStart ⟨[b], more⟩ pins).rearmFaulted o) := by
  have len : (Record.mk [b] more).params.length = 1 := rfl
  rw [exec, execRearm, portCommand_work held len]
  exact congrArg _ (State.outletCommand_work hp ho)

/-- Settles O26: an ENABLED outlet is refused; a FAULTED one goes by what is pending. -/
theorem rearmActsByStanding : Obligations.RearmActsByStanding := by
  intro b more pins s o held hp ho r x answers appended
  have run := exec_rearm (more := more) (pins := pins) held hp ho
  refine ⟨fun enabled => run.trans (congrArg _ (if_pos enabled)), fun faulted => ?_⟩
  have run := run.trans (congrArg _ (if_neg (by rw [show (s.outlet o).actuator = .faulted from faulted]; exact nofun)))
  let u := s.commandStart r pins
  refine ⟨fun free room => ?_, fun free full => ?_, fun p hq rearm => ?_, fun a ha drives alone room => ?_,
    fun a ha drives urgent full => ?_⟩
  all_goals refine run.trans (congrArg _ ?_)
  · refine ((State.rearmFaulted_free (s := u) free).trans (if_pos room)).trans ?_
    have same : s.outlets.set o.val x = s.outlets := congrArg State.outlets (s.setOutlet_self o)
    rw [State.acceptRearm_free (s := u) (State.pendingFor_none free).2, same]
    rfl
  · exact (State.rearmFaulted_free (s := u) free).trans (if_neg full.not_gt)
  · exact State.rearmFaulted_merged (s := u) hq rearm
  · have roomy : s.rsq.standard.length < 32 + (if a.lane = .standard then 1 else 0) := by
      rcases room with room | ⟨own, full⟩
      · omega
      · rw [if_pos own]
        omega
    refine ((State.rearmFaulted_over (s := u) ha drives).trans (if_pos roomy)).trans ?_
    rw [State.acceptRearm_over (s := u) alone]
    rfl
  · have crowded : ¬ s.rsq.standard.length < 32 + (if a.lane = .standard then 1 else 0) := by
      rw [urgent, if_neg nofun]
      omega
    exact (State.rearmFaulted_over (s := u) ha drives).trans (if_neg crowded)

end Sys2Proof.Machine
end

section
/-! The outputs that follow from the state: ATTN, the coil drives, the line (R138, R147, R175, R177). -/

namespace Sys2Proof.Machine

open Sys2Proof.Claims

variable {s : State} {o : OutletIx} {p : Position}

/-! ### ATTN -/

theorem State.attn_iff (released : s.resetHeld = false) :
    s.attn = true ↔ s.station.attnThreshold ≤ s.nq.queue.length := by
  simp [State.attn, released]

theorem State.attn_held (held : s.resetHeld = true) : s.attn = false := by
  simp [State.attn, held]

/-! ### The coil drives -/

/-- A coil is driven by the pulse of the action in flight or by one left running (R138, R147). -/
theorem State.coilDriven_iff :
    s.coilDriven o p = true ↔
      (∃ f left, s.rsq.inFlight = some f ∧ f.pulse = some left ∧ f.action.outlet = o ∧ targetOf f.action.kind = p) ∨
        ∃ left, (s.outlet o).residualPulse = some ⟨p, left⟩ := by
  rw [State.coilDriven, Bool.or_eq_true, Option.any_eq_true, Option.any_eq_true]
  refine or_congr (exists_congr fun f => ?_) ⟨?_, ?_⟩
  · simp only [Bool.and_eq_true, beq_iff_eq, ActionKind.target_eq, Option.isSome_iff_exists]
    tauto
  · rintro ⟨⟨toward, left⟩, residual, same⟩
    exact ⟨left, residual.trans (by rw [← beq_iff_eq.mp same])⟩
  · rintro ⟨left, residual⟩
    exact ⟨_, residual, beq_self_eq_true p⟩

/-- A started action drives its coil toward its target alone (R138). -/
theorem State.coilDriven_startAction {a : Action} (free : (s.outlet a.outlet).residualPulse = none) :
    (s.startAction a).coilDriven a.outlet p = true ↔ p = targetOf a.kind := by
  rw [State.coilDriven_iff]
  constructor
  · rintro (⟨f, left, flight, -, -, target⟩ | ⟨left, residual⟩)
    · cases flight
      exact target.symm
    · exact absurd (free.symm.trans residual) nofun
  · rintro rfl
    exact .inl ⟨_, _, rfl, rfl, rfl, rfl⟩

/-! ### RESTART -/

/-- The drive of an action in flight, as a pulse left running in its direction (R147). -/
theorem InFlight.drive_eq_some_iff {f : InFlight} {q : CoilPulse} :
    f.drive = some q ↔ f.pulse = some q.left ∧ targetOf f.action.kind = q.toward := by
  obtain ⟨toward, left⟩ := q
  cases h : f.pulse with
  | none => simp [h]
  | some n => simp [InFlight.drive_some h, ActionKind.target_eq, and_comm]

/-- A pulse left running: the record of the outlet in flight takes it, every other pulse stays. -/
theorem State.leavePulse_residual (u : State) (f : Option InFlight) (o : OutletIx) :
    ((u.leavePulse f).outlet o).residualPulse =
      (f.bind fun g => if g.action.outlet = o then g.drive else none).or (u.outlet o).residualPulse := by
  cases f with
  | none => rfl
  | some g =>
    rw [State.leavePulse, Option.bind_some]
    dsimp only
    cases hd : g.drive with
    | none => simp
    | some q =>
      by_cases here : g.action.outlet = o
      · subst here
        simp
      · simp [here, State.outlet_setOutlet_ne u here]

@[simp] theorem State.leavePulse_rsq (u : State) (f : Option InFlight) : (u.leavePulse f).rsq = u.rsq := by
  unfold State.leavePulse
  split
  · split
    · rfl
    · rfl
  · rfl

/-- RESTART empties the place in flight and leaves its pulse to the outlet: what drives a coil goes on driving it
(R147). -/
theorem State.coilDriven_restarted
    (free : ∀ f, s.rsq.inFlight = some f → (s.outlet f.action.outlet).residualPulse = none) :
    s.restarted.coilDriven o p = s.coilDriven o p := by
  have landed : s.restarted.rsq.inFlight = none := by
    rw [State.restarted_eq, State.leavePulse_rsq]
    rfl
  have residual : (s.restarted.outlet o).residualPulse =
      (s.rsq.inFlight.bind fun f => if f.action.outlet = o then f.drive else none).or (s.outlet o).residualPulse := by
    rw [State.restarted_eq, State.leavePulse_residual, State.configKept_outlet]
    rfl
  rw [Bool.eq_iff_iff, State.coilDriven_iff, State.coilDriven_iff, landed, residual]
  cases hf : s.rsq.inFlight with
  | none => simp
  | some f =>
    by_cases here : f.action.outlet = o
    · subst here
      simp [free f hf, InFlight.drive_eq_some_iff]
    · simp [here]

theorem exec_restart {r : Record} (held : s.resetHeld = false) (plain : r.params = []) :
    exec (.restart r) s = .next (s.endTransaction (2 + r.params.length + r.trailing.length)).restarted := by
  rw [exec, execRestart, portCommand_work held (by rw [plain]; rfl)]

/-- Settles O17: ATTN by the count, each coil by its pulses, the line by its frame; a start and a RESTART by what they
leave of the pulses. -/
theorem outputsFollowTheState : Obligations.OutputsFollowTheState := by
  refine ⟨fun s => ⟨State.attn_iff, State.attn_held, fun o p => State.coilDriven_iff, fun idle => ?_, fun f hf => ?_⟩,
    fun s a p free => State.coilDriven_startAction free, fun r s held plain free => ?_⟩
  · rw [State.lineBytes, idle]
    rfl
  · rw [State.lineBytes, hf]
    rfl
  · refine ⟨_, exec_restart held plain, fun o p => ?_⟩
    exact State.coilDriven_restarted (s := s.endTransaction _) free

end Sys2Proof.Machine
end

section
/-! Energy and overage: the counters and notices of an outlet's turn, a slot's turn and a whole completion (R149 to
R155). -/

namespace Sys2Proof.Machine

open Sys2Proof.Claims

variable {s t : State} {k : SlotIx}

/-! ### Notices raised turn by turn -/

theorem raisedAll_append (st : Station) (stamp : Nat) (bodies more : List NoticeBody) (q : Nq) :
    raisedAll st stamp (bodies ++ more) q = raisedAll st stamp more (raisedAll st stamp bodies q) := List.foldl_append

/-- A notice raised on a condition. -/
theorem State.raiseAt_if (s : State) (stamp : Nat) (b : NoticeBody) (c : Prop) [Decidable c] :
    (if c then s.raiseAt stamp b else s) =
      { s with nq := raisedAll s.station stamp (if c then [b] else []) s.nq } := by
  split
  · exact s.raiseAt_eq stamp b
  · rfl

/-- Where no turn changes what another is to raise, the notices are those of the first state in turn order. -/
theorem nq_foldl_of_turns {α : Type} {f : State → α → State} {bodies : State → α → List NoticeBody} {stamp : Nat}
    (turn : ∀ u a, (f u a).nq = raisedAll u.station stamp (bodies u a) u.nq)
    (station : ∀ u a, (f u a).station = u.station)
    (fixed : ∀ u a c, c ≠ a → bodies (f u a) c = bodies u c) (l : List α) (distinct : l.Nodup) (s : State) :
    (l.foldl f s).nq = raisedAll s.station stamp (l.flatMap (bodies s)) s.nq := by
  induction l generalizing s with
  | nil => rfl
  | cons a l ih =>
    obtain ⟨other, distinct⟩ := List.nodup_cons.mp distinct
    have later : l.flatMap (bodies (f s a)) = l.flatMap (bodies s) :=
      List.flatMap_congr fun c hc => fixed s a c fun e => other (e ▸ hc)
    rw [List.foldl_cons, ih distinct, station, turn, later, List.flatMap_cons, raisedAll_append]

/-! ### The carry and the wrap -/

/-- R152's carry: the whole Wh of count, residue and amount together. -/
theorem Counter.carried (c : Counter) (amount : Nat) :
    c.count + (c.residue + amount) / Config.wattHour = (c.count * 36000 + c.residue + amount) / 36000 := by
  unfold Config.wattHour
  omega

theorem Counter.wraps_eq (c : Counter) (amount : Nat) : c.wraps amount = Claims.wraps c amount := by
  rw [Counter.wraps, Counter.carried]
  rfl

theorem Counter.add_eq (c : Counter) (amount : Nat) : c.add amount = addedTo c amount := by
  rw [Counter.add, Counter.carried, Counter.wraps_eq]
  rfl

/-! ### An outlet's turn -/

/-- An outlet's record after one second of energy (R150). -/
def Outlet.charged (x : Outlet) : Outlet := { x with energy := addedTo x.energy (energyOf x) }

/-- The COUNTER_WRAP of an outlet's turn (R155). -/
def outletWraps (s : State) (o : OutletIx) : List NoticeBody :=
  if wraps (s.outlet o).energy (energyOf (s.outlet o)) then [.outletWrap o] else []

theorem Outlet.energyFigure_eq (x : Outlet) : x.energyFigure = energyOf x := by
  unfold Outlet.energyFigure energyOf
  cases x.feedback with
  | closed => rfl
  | opened => rfl

theorem State.addOutletEnergy_eq (stamp : Nat) (s : State) (o : OutletIx) :
    s.addOutletEnergy stamp o =
      { s.setOutlet o (s.outlet o).charged with nq := raisedAll s.station stamp (outletWraps s o) s.nq } := by
  unfold State.addOutletEnergy
  dsimp only
  rw [Outlet.energyFigure_eq, Counter.add_eq, Counter.wraps_eq, State.raiseAt_if]
  rfl

theorem State.outlet_addOutletEnergy_self (stamp : Nat) (s : State) (o : OutletIx) :
    (s.addOutletEnergy stamp o).outlet o = (s.outlet o).charged := by
  rw [State.addOutletEnergy_eq]
  exact s.outlet_setOutlet_self o _

theorem State.outlet_addOutletEnergy_ne (stamp : Nat) (s : State) {o i : OutletIx} (h : i ≠ o) :
    (s.addOutletEnergy stamp o).outlet i = s.outlet i := by
  rw [State.addOutletEnergy_eq]
  exact s.outlet_setOutlet_ne h.symm _

/-- All the outlets worked: their records and the notices alone change. -/
theorem foldl_addOutletEnergy (stamp : Nat) (s : State) :
    ∃ outlets, allOutlets.foldl (State.addOutletEnergy stamp) s =
        { s with outlets := outlets, nq := raisedAll s.station stamp (allOutlets.flatMap (outletWraps s)) s.nq } ∧
      ∀ o : OutletIx, outlets[o.val] = (s.outlet o).charged := by
  have frame : ∃ outlets nq, allOutlets.foldl (State.addOutletEnergy stamp) s =
      { s with outlets := outlets, nq := nq } :=
    foldl_keeps (P := fun u => ∃ outlets nq, u = { s with outlets := outlets, nq := nq })
      (fun u o ⟨_, _, hu⟩ => ⟨_, _, by rw [State.addOutletEnergy_eq, hu]; rfl⟩) allOutlets s ⟨_, _, rfl⟩
  have notices := nq_foldl_of_turns (f := State.addOutletEnergy stamp) (bodies := outletWraps) (stamp := stamp)
    (fun u o => by rw [State.addOutletEnergy_eq]) (fun u o => by rw [State.addOutletEnergy_eq]; rfl)
    (fun u o i h => by unfold outletWraps; rw [State.outlet_addOutletEnergy_ne stamp u h])
    allOutlets (List.nodup_finRange 48) s
  have records (o : OutletIx) := foldl_worked (get := State.outlet) (f := State.addOutletEnergy stamp)
    (work := fun u o => (u.outlet o).charged) (State.outlet_addOutletEnergy_self stamp)
    (fun u _ _ => State.outlet_addOutletEnergy_ne stamp u)
    (fun u _ _ h => congrArg Outlet.charged (State.outlet_addOutletEnergy_ne stamp u h))
    allOutlets (List.nodup_finRange 48) s o
  obtain ⟨outlets, nq, frame⟩ := frame
  rw [frame] at notices records
  obtain rfl : nq = _ := notices
  exact ⟨outlets, frame, fun o => (records o).trans (if_pos (List.mem_finRange o))⟩

/-! ### A slot's turn -/

/-- The COUNTER_WRAP notices of a slot's turn, energy before overage (R149, R155). -/
def slotWraps (s : State) (k : SlotIx) : List NoticeBody :=
  if s.inUse k then
    (if wraps (s.counters k).energy (slotEnergyOf s k) then [.slotWrap k .energy] else []) ++
      (if (s.slot k).state ≠ .uncontracted ∧ wraps (s.counters k).overage (overageOf (s.slot k)) = true then
        [.slotWrap k .overage]
      else [])
  else []

/-- The notices of a completion are those of the outlets' turns, then those of the slots'. -/
theorem wrapNotices_eq (s : State) :
    wrapNotices s = allOutlets.flatMap (outletWraps s) ++ allSlots.flatMap (slotWraps s) := by
  unfold wrapNotices
  rw [List.filterMap_eq_flatMap_toList]
  refine congrArg (· ++ _) (List.flatMap_congr fun o _ => ?_)
  exact apply_ite Option.toList ..

theorem Outlet.billedTo_iff {x : Outlet} : x.billedTo k = true ↔ x.slot = some k ∧ x.cls ≠ .exempt := by
  unfold Outlet.billedTo
  cases x.cls with
  | contracted => simp
  | billed => simp
  | exempt => simp

theorem State.slotEnergyFigure_eq (s : State) (k : SlotIx) : s.slotEnergyFigure k = slotEnergyOf s k := by
  simp only [State.slotEnergyFigure, sum_map_filter, Outlet.billedTo_iff, Outlet.energyFigure_eq, slotEnergyOf]

theorem attribution_eq (r : SlotRuntime) : attribution r = overageOf r := rfl

/-- A slot's counters written and these notices raised with one stamp. -/
def State.account (s : State) (stamp : Nat) (k : SlotIx) (c : SlotCounters) (bodies : List NoticeBody) : State :=
  { s.setCounters k c with nq := raisedAll s.station stamp bodies s.nq }

theorem State.counters_account_self (s : State) (stamp : Nat) (k : SlotIx) (c : SlotCounters)
    (bodies : List NoticeBody) : (s.account stamp k c bodies).counters k = c := s.counters_setCounters_self k c

theorem State.account_account (s : State) (stamp : Nat) (k : SlotIx) (c d : SlotCounters)
    (bodies more : List NoticeBody) :
    (s.account stamp k c bodies).account stamp k d more = s.account stamp k d (bodies ++ more) := by
  simp [State.account, State.setCounters, raisedAll_append]

theorem State.account_self (s : State) (stamp : Nat) (k : SlotIx) : s.account stamp k (s.counters k) [] = s := by
  simp [State.account, State.setCounters, State.counters, raisedAll]

/-- A slot's counters after one second of energy (R151). -/
def SlotCounters.charged (c : SlotCounters) (amount : Nat) : SlotCounters :=
  { c with energy := addedTo c.energy amount }

/-- A slot's counters after the attribution of its overage (R153). -/
def SlotCounters.attributed (c : SlotCounters) (r : SlotRuntime) : SlotCounters :=
  if r.state = .uncontracted then { c with lastAttributed := 0 }
  else { c with overage := addedTo c.overage (overageOf r), lastAttributed := overageOf r }

theorem accounted_of_inUse (h : s.inUse k = true) :
    accounted s k = ((s.counters k).charged (slotEnergyOf s k)).attributed (s.slot k) := if_pos h

theorem accounted_of_free (h : s.inUse k = false) : accounted s k = s.counters k := if_neg (ne_true_of_eq_false h)

theorem State.addSlotEnergy_eq (stamp : Nat) (s : State) (k : SlotIx) :
    s.addSlotEnergy stamp k = s.account stamp k ((s.counters k).charged (slotEnergyOf s k))
      (if wraps (s.counters k).energy (slotEnergyOf s k) then [.slotWrap k .energy] else []) := by
  unfold State.addSlotEnergy
  dsimp only
  rw [State.slotEnergyFigure_eq, Counter.add_eq, Counter.wraps_eq, State.raiseAt_if]
  rfl

theorem State.addOverage_eq (stamp : Nat) (s : State) (k : SlotIx) :
    s.addOverage stamp k = s.account stamp k ((s.counters k).attributed (s.slot k))
      (if (s.slot k).state ≠ .uncontracted ∧ wraps (s.counters k).overage (overageOf (s.slot k)) = true then
        [.slotWrap k .overage]
      else []) := by
  unfold State.addOverage SlotCounters.attributed
  dsimp only
  by_cases h : (s.slot k).state = .uncontracted
  · rw [if_pos h, if_pos h, if_neg fun c => c.1 h]
    rfl
  · rw [if_neg h, if_neg h, attribution_eq, Counter.add_eq, Counter.wraps_eq, State.raiseAt_if]
    simp only [ne_eq, h, not_false_eq_true, true_and]
    rfl

/-- A slot's turn writes its counters and raises its notices, whether or not the slot is in use. -/
theorem State.accountSlot_eq (stamp : Nat) (s : State) (k : SlotIx) :
    s.accountSlot stamp k = s.account stamp k (accounted s k) (slotWraps s k) := by
  cases used : s.inUse k with
  | true =>
    rw [State.accountSlot, if_pos used, State.addSlotEnergy_eq, State.addOverage_eq, State.counters_account_self,
      State.account_account, accounted_of_inUse used, slotWraps, if_pos used]
    rfl
  | false =>
    have free := ne_true_of_eq_false used
    rw [State.accountSlot, if_neg free, slotWraps, if_neg free, accounted_of_free used, State.account_self]

theorem State.counters_accountSlot_self (stamp : Nat) (s : State) (k : SlotIx) :
    (s.accountSlot stamp k).counters k = accounted s k := by
  rw [State.accountSlot_eq]
  exact s.counters_setCounters_self k _

/-! ### What a slot's turn reads -/

/-- Two states that agree in all that a slot's turn reads. -/
structure SameAccount (s t : State) (k : SlotIx) : Prop where
  inUse : t.inUse k = s.inUse k
  slot : t.slot k = s.slot k
  counters : t.counters k = s.counters k
  energy : slotEnergyOf t k = slotEnergyOf s k

theorem SameAccount.accounted (h : SameAccount s t k) : accounted t k = accounted s k := by
  unfold Claims.accounted
  rw [h.inUse, h.slot, h.counters, h.energy]

theorem SameAccount.slotWraps (h : SameAccount s t k) : slotWraps t k = slotWraps s k := by
  unfold Machine.slotWraps
  rw [h.inUse, h.slot, h.counters, h.energy]

/-- A slot's turn reads no other slot's counters. -/
theorem sameAccount_accountSlot (stamp : Nat) (s : State) {j : SlotIx} (h : j ≠ k) :
    SameAccount s (s.accountSlot stamp k) j := by
  rw [State.accountSlot_eq]
  exact { inUse := rfl, slot := rfl, counters := s.counters_setCounters_ne h.symm _, energy := rfl }

/-- All the slots worked: their counters and the notices alone change. -/
theorem foldl_accountSlot (stamp : Nat) (s : State) :
    ∃ slots, allSlots.foldl (State.accountSlot stamp) s =
        { s with
          ect := { s.ect with slots := slots }
          nq := raisedAll s.station stamp (allSlots.flatMap (slotWraps s)) s.nq } ∧
      ∀ k : SlotIx, slots[k.val] = accounted s k := by
  have frame : ∃ slots nq, allSlots.foldl (State.accountSlot stamp) s =
      { s with ect := { s.ect with slots := slots }, nq := nq } :=
    foldl_keeps (P := fun u => ∃ slots nq, u = { s with ect := { s.ect with slots := slots }, nq := nq })
      (fun u k ⟨_, _, hu⟩ => ⟨_, _, by rw [State.accountSlot_eq, hu]; rfl⟩) allSlots s ⟨_, _, rfl⟩
  have notices := nq_foldl_of_turns (f := State.accountSlot stamp) (bodies := slotWraps) (stamp := stamp)
    (fun u k => by rw [State.accountSlot_eq]; rfl) (fun u k => by rw [State.accountSlot_eq]; rfl)
    (fun u _ _ h => (sameAccount_accountSlot stamp u h).slotWraps) allSlots (List.nodup_finRange 16) s
  have records (k : SlotIx) := foldl_worked (get := State.counters) (f := State.accountSlot stamp) (work := accounted)
    (State.counters_accountSlot_self stamp) (fun u _ _ h => (sameAccount_accountSlot stamp u h).counters)
    (fun u _ _ h => (sameAccount_accountSlot stamp u h).accounted) allSlots (List.nodup_finRange 16) s k
  obtain ⟨slots, nq, frame⟩ := frame
  rw [frame] at notices records
  obtain rfl : nq = _ := notices
  exact ⟨slots, frame, fun k => (records k).trans (if_pos (List.mem_finRange k))⟩

/-! ### The completion -/

/-- The state on which a completion's work begins: the oldest completion taken, these left. -/
def State.accountStart (s : State) (rest : List Nat) : State := { s with ect := { s.ect with tallies := rest } }

theorem exec_ectTallyCompletion (held : s.resetHeld = false) {n : Nat} {rest : List Nat}
    (waits : s.ect.tallies = n :: rest) :
    exec .ectTallyCompletion s = .next
      (allSlots.foldl (State.accountSlot n) (allOutlets.foldl (State.addOutletEnergy n) (s.accountStart rest))) := by
  rw [exec, execEctTallyCompletion, unlessHeld_free held, waits]
  rfl

/-- The state on which the slots are worked: the completion taken, the outlets charged. -/
def State.outletsWorked (s : State) (n : Nat) (rest : List Nat) (outlets : Vector Outlet 48) : State :=
  { s.accountStart rest with
    outlets := outlets
    nq := raisedAll s.station n (allOutlets.flatMap (outletWraps s)) s.nq }

/-- A slot's turn reads neither the outlets' own counters nor the completions left (R151). -/
theorem sameAccount_outletsWorked {outlets : Vector Outlet 48}
    (charged : ∀ o : OutletIx, outlets[o.val] = (s.outlet o).charged) (n : Nat) (rest : List Nat) (k : SlotIx) :
    SameAccount s (s.outletsWorked n rest outlets) k where
  inUse := rfl
  slot := rfl
  counters := rfl
  energy := by
    have records (o : OutletIx) : (s.outletsWorked n rest outlets).outlet o = (s.outlet o).charged := charged o
    simp only [slotEnergyOf, records]
    rfl

/-! ### The bound of the attribution -/

/-- A tally's aggregate holds the local contribution (R46). -/
theorem State.tallyRecord_local_le (s : State) (k : SlotIx) :
    (s.tallyRecord k).localDraw ≤ (s.tallyRecord k).aggregate := by
  have held : s.localContribution k ≤ s.aggregateOf k (s.localContribution k) := by
    unfold State.aggregateOf
    omega
  unfold State.tallyRecord
  dsimp only
  split
  · exact held
  · exact held

/-- Where L is at most A, floor(U × L / A) is at most U (R153). -/
theorem overageOf_le_uncovered {r : SlotRuntime} (h : r.localDraw ≤ r.aggregate) : overageOf r ≤ r.uncovered := by
  unfold overageOf
  split
  · exact Nat.zero_le _
  · refine Nat.div_le_of_le_mul ?_
    rw [Nat.mul_comm r.aggregate]
    exact Nat.mul_le_mul_left _ h

/-- Settles O34: the outlets worked, then the slots on records that differ in the outlets' counters alone. -/
theorem energyCompletionAccounts : Obligations.EnergyCompletionAccounts := by
  refine ⟨fun s n rest held waits => ?_, fun s k _ =>
    ⟨overageOf_le_uncovered (s.tallyRecord_local_le k), attribution_le (s.tallyRecord_credit k)⟩⟩
  obtain ⟨outlets, frame, charged⟩ := foldl_addOutletEnergy n (s.accountStart rest)
  have first : allOutlets.foldl (State.addOutletEnergy n) (s.accountStart rest) =
      s.outletsWorked n rest outlets := frame
  have same := sameAccount_outletsWorked charged n rest
  obtain ⟨slots, worked, counted⟩ := foldl_accountSlot n (s.outletsWorked n rest outlets)
  have later : allSlots.flatMap (slotWraps (s.outletsWorked n rest outlets)) = allSlots.flatMap (slotWraps s) :=
    List.flatMap_congr fun k _ => (same k).slotWraps
  have run := exec_ectTallyCompletion held waits
  rw [first, worked, later] at run
  refine ⟨_, run, ?_, charged, fun k => (counted k).trans (same k).accounted⟩
  rw [wrapNotices_eq, raisedAll_append]
  rfl

end Sys2Proof.Machine
end

section
/-! A step and its command: the front of the queue is taken, each command answers, and the pin held stops all but the
resets (R160, R166, R167). -/

namespace Sys2Proof.Machine

variable {s : State} {c : Instr}

/-- Settles O1: the queue's front, taken. -/
theorem stepTakesFrontCommand : Obligations.StepTakesFrontCommand := by
  intro c rest s waits
  rw [step, waits]

/-- No command ends in a fault or a refusal (log entry 25). -/
theorem exec_answers_next (c : Instr) (s : State) : ∃ t, exec c s = .next t := by
  cases c
  all_goals exact ⟨_, rfl⟩

/-- While the pin is held, the test before a command's work leaves the state (R167; log entry 6). -/
theorem exec_held (held : s.resetHeld = true) (on : c ≠ .powerOn) (assert : c ≠ .resetPinAssert)
    (release : c ≠ .resetPinRelease) : exec c s = .next s := by
  cases s
  cases held
  cases c with
  | powerOn => exact absurd rfl on
  | resetPinAssert => exact absurd rfl assert
  | resetPinRelease => exact absurd rfl release
  | _ => rfl

/-- Settles O3: each command answers, and the pin held stops all but the resets. -/
theorem everyCommandAnswersNext : Obligations.EveryCommandAnswersNext := fun c s =>
  ⟨exec_answers_next c s, exec_held⟩

end Sys2Proof.Machine
end

section
/-! The resets: power-on, the reset pin and RESTART (R147, R166, R167), and the values they bring. -/

namespace Sys2Proof.Machine

open Sys2Proof.Safety Sys2Proof.Claims

variable {s : State} {o : OutletIx}

/-! ### The reset state -/

theorem reset_runtimeReset : RuntimeReset State.reset where
  outlets o := by simp [Outlet.reset, Reading.reset, Counter.zero]
  osu := rfl
  tally := ⟨rfl, rfl, State.reset_slot⟩
  table := ⟨State.reset_entry, rfl, rfl, rfl⟩
  link := rfl
  curtailment := ⟨State.reset_curSlot, rfl, rfl⟩
  branches := ⟨fun b => by simp [Branch.reset], rfl⟩
  relays := rfl
  energy := ⟨State.reset_counters, rfl⟩
  port := rfl
  notices := rfl

theorem reset_configDefault : ConfigDefault State.reset where
  station := rfl
  tenants := State.reset_tenant
  outlets o := by rw [State.reset_outlet]; exact ⟨rfl, rfl, rfl, rfl, rfl⟩
  branches b := by rw [State.reset_branch]; exact ⟨rfl, rfl, rfl, rfl⟩
  fixed := State.reset_fixedEntry

/-- Settles O54: each invariant of the values of the reset tables. -/
theorem resetMeetsEveryInvariant : Obligations.ResetMeetsEveryInvariant :=
  ⟨Nat.zero_le _, fun o => by rw [State.reset_outlet]; exact Outlet.reset_stands,
    fun o => by rw [State.reset_outlet]; exact Reading.reset_inRange,
    ⟨fun o => by rw [State.reset_outlet]; exact Counter.zero_inRange,
      fun k => by rw [State.reset_counters]; exact SlotCounters.zero_inRange⟩,
    fun k => by rw [State.reset_slot]; exact SlotRuntime.reset_credit, branchLaw_of_reset rfl,
    fun b => by rw [State.reset_branch]; exact Branch.reset_stands b, State.reset.poweredOn_linkHolds false,
    State.reset.poweredOn_tableHolds false, State.reset.poweredOn_phaseGates false,
    (configInRange_iff _).mpr reset_config, (tableInRange_iff _).mpr reset_table,
    (runtimeInRange_iff _).mpr reset_runtime⟩

/-! ### Coils without a pulse -/

/-- With nothing in flight and no pulse left over no coil is driven (R138, R147). -/
theorem State.coilDriven_idle (grounded : s.rsq.inFlight = none) (free : (s.outlet o).residualPulse = none)
    (p : Position) : s.coilDriven o p = false := by
  rw [State.coilDriven, grounded, free]
  rfl

/-! ### Power-on and the reset pin -/

/-- Every block of a part powered on is as in the reset state; the levels of its pins and what waits are its own. -/
theorem State.poweredOn_resets (s : State) (held : Bool) :
    RuntimeReset (s.poweredOn held) ∧ ConfigDefault (s.poweredOn held) ∧
      (∀ o p, (s.poweredOn held).coilDriven o p = false) ∧
      (s.poweredOn held).resetHeld = held ∧ (s.poweredOn held).contacts = s.contacts ∧
      (s.poweredOn held).dataOut = [] ∧ (s.poweredOn held).pending = s.pending :=
  ⟨{ reset_runtimeReset with }, { reset_configDefault with },
    fun o => State.coilDriven_idle rfl (congrArg Outlet.residualPulse (State.reset_outlet o)), rfl, rfl, rfl, rfl⟩

/-- Settles O4: both bring the power-on values. -/
theorem powerOnAndPinReleaseReset : Obligations.PowerOnAndPinReleaseReset := fun s =>
  ⟨_, _, rfl, rfl, s.poweredOn_resets s.resetHeld, s.poweredOn_resets false⟩

/-- Settles O5: the blocks that drive an output are at their reset values, and no pulse is left. -/
theorem pinAssertStopsEveryOutput : Obligations.PinAssertStopsEveryOutput := by
  intro s
  have records (o : OutletIx) : (mapVec (fun x : Outlet => { x with residualPulse := none }) s.outlets)[o.val] =
      { s.outlet o with residualPulse := none } := getElem_mapVec ..
  refine ⟨_, rfl, rfl, fun o => State.coilDriven_idle rfl ?_, State.attn_held rfl, rfl, rfl, rfl, records⟩
  exact congrArg Outlet.residualPulse (records o)

/-! ### RESTART -/

theorem State.leavePulse_frame (u : State) (f : Option InFlight) :
    ∃ v, u.leavePulse f = { u with outlets := v } := by
  unfold State.leavePulse
  split
  · split
    · exact ⟨_, rfl⟩
    · exact ⟨_, rfl⟩
  · exact ⟨_, rfl⟩

/-- A pulse left running changes no record but in its pulse (R147). -/
theorem State.leavePulse_outlet (u : State) (f : Option InFlight) (o : OutletIx) :
    (u.leavePulse f).outlet o =
      { u.outlet o with residualPulse := ((u.leavePulse f).outlet o).residualPulse } := by
  unfold State.leavePulse
  split
  · split
    · rw [State.outlet_setOutlet]
      split
      · next here => rw [here]
      · rfl
    · rfl
  · rfl

/-- The pulse that RESTART leaves an outlet: the one in flight for it, or the one it had (R147). -/
def State.pulseLeft (s : State) (o : OutletIx) : Option CoilPulse :=
  (s.rsq.inFlight.bind fun f => if f.action.outlet = o then f.drive else none).or (s.outlet o).residualPulse

/-- RESTART leaves the reset state with the configuration kept and the pulses (R147, R166). -/
theorem State.restarted_frame (s : State) :
    ∃ v : Vector Outlet 48, s.restarted = { s.configKept with outlets := v } ∧
      ∀ o : OutletIx, v[o.val] = { (s.outlet o).restarted with residualPulse := s.pulseLeft o } := by
  obtain ⟨v, frame⟩ := s.configKept.leavePulse_frame s.rsq.inFlight
  refine ⟨v, frame, fun o => ?_⟩
  have record := s.configKept.leavePulse_outlet s.rsq.inFlight o
  rw [State.leavePulse_residual, State.configKept_outlet, frame] at record
  exact record

theorem State.pulseLeft_eq (s : State) (o : OutletIx) :
    s.pulseLeft o =
      match s.rsq.inFlight with
      | some f =>
        match f.pulse with
        | some left =>
          if f.action.outlet = o then some ⟨targetOf f.action.kind, left⟩ else (s.outlet o).residualPulse
        | none => (s.outlet o).residualPulse
      | none => (s.outlet o).residualPulse := by
  unfold State.pulseLeft
  cases s.rsq.inFlight with
  | none => rfl
  | some f =>
    rw [Option.bind_some]
    dsimp only
    cases pulse : f.pulse with
    | none => simp [pulse]
    | some left =>
      rw [InFlight.drive_some pulse, ActionKind.target_eq]
      split
      · rfl
      · rfl

theorem State.restarted_runtimeReset (s : State) : RuntimeReset s.restarted := by
  obtain ⟨v, frame, records⟩ := s.restarted_frame
  rw [frame]
  exact { reset_runtimeReset with
    outlets := fun o => by
      have record : ({ s.configKept with outlets := v } : State).outlet o = _ := records o
      rw [record]
      exact ⟨rfl, rfl, rfl, rfl, rfl, rfl, rfl, rfl, rfl⟩
    branches := ⟨fun b => by
      have record : ({ s.configKept with outlets := v } : State).branch b = _ := s.configKept_branch b
      rw [record]
      exact ⟨rfl, rfl, rfl, rfl, rfl, rfl⟩, rfl⟩ }

theorem State.restarted_configKept (s : State) : ConfigKept s s.restarted := by
  obtain ⟨v, frame, records⟩ := s.restarted_frame
  rw [frame]
  exact {
    station := rfl
    tenants := rfl
    outlets := fun o => by
      have record : ({ s.configKept with outlets := v } : State).outlet o = _ := records o
      rw [record]
      exact ⟨rfl, rfl, rfl, rfl, rfl⟩
    branches := fun b => by
      have record : ({ s.configKept with outlets := v } : State).branch b = _ := s.configKept_branch b
      rw [record]
      exact ⟨rfl, rfl, rfl, rfl⟩
    fixed := rfl }

/-- Settles O6: the transaction, then the reset values, the configuration and the pulses. -/
theorem restartKeepsConfigurationAlone : Obligations.RestartKeepsConfigurationAlone := by
  intro r s held plain
  let u := s.endTransaction (2 + r.params.length + r.trailing.length)
  obtain ⟨v, frame, records⟩ := u.restarted_frame
  refine ⟨u.restarted, exec_restart held plain, u.restarted_runtimeReset, { u.restarted_configKept with }, ?_, ?_, ?_,
    ?_, fun o => ?_⟩
  · rw [frame]
    exact held
  · rw [frame]
    rfl
  · rw [frame]
    rfl
  · rw [frame]
    rfl
  · rw [frame]
    exact (congrArg Outlet.residualPulse (records o)).trans (s.pulseLeft_eq o)

end Sys2Proof.Machine
end

section
/-! The port and its transactions (R159 to R161, R179, R180): what is clocked out, what the bytes carry, and that each
port command's work leaves the data-out pin. -/

namespace Sys2Proof.Machine

open Sys2Proof.Claims

variable {s : State} {c : Instr} {code : Byte} {len n : Nat} {r : Record} {pins : Contacts} {p : Reply}

/-! ### The returned frame -/

theorem Mpt.frame_of_clear {m : Mpt} (clear : m.ready = false) : m.frame = [] := by
  rw [Mpt.frame, clear]

theorem Mpt.frame_of_reply {m : Mpt} (ready : m.ready = true) (held : m.buffer = some p) : m.frame = 1 :: p.bytes := by
  rw [Mpt.frame, ready, held]

theorem clockedOut_nil (n : Nat) : clockedOut n [] = List.replicate n 0 := by
  simp [clockedOut]

/-- Zeros fill what the returned frame leaves of the transaction. -/
theorem clockedOut_eq (n : Nat) (frame : List Byte) :
    clockedOut n frame = (frame ++ List.replicate (n - frame.length) 0).take n := by
  simp [clockedOut, List.take_append]

@[simp] theorem clockedOut_length (n : Nat) (frame : List Byte) : (clockedOut n frame).length = n := by
  simp [clockedOut]

/-- The frame of a reply, then zeros (R179, R180). -/
theorem clockedOut_reply {m : Mpt} (n : Nat) (ready : m.ready = true) (held : m.buffer = some p) :
    clockedOut n m.frame =
      ([1, p.code, p.status.code, BitVec.ofNat 8 p.data.length] ++ p.data ++ List.replicate n 0).take n := by
  rw [Mpt.frame_of_reply ready held]
  rfl

theorem clockedOut_clear {m : Mpt} (n : Nat) (clear : m.ready = false) :
    clockedOut n m.frame = List.replicate n 0 := by
  rw [Mpt.frame_of_clear clear, clockedOut_nil]

/-! ### Transactions without a command -/

theorem exec_noCommandTransaction (bytes : List Byte) (held : s.resetHeld = false) :
    exec (.noCommandTransaction bytes) s = .next (s.endTransaction bytes.length) := by
  rw [exec, execNoCommandTransaction, unlessHeld_free held]

theorem State.endTransaction_clear (n : Nat) (clear : s.mpt.ready = false) :
    s.endTransaction n = { s with dataOut := List.replicate n 0 } := by
  have still : ({ s.mpt with ready := s.mpt.ready && decide (n < s.mpt.frame.length) } : Mpt) = s.mpt := by
    rw [clear, Bool.false_and, ← clear]
  rw [State.endTransaction, still, clockedOut_clear n clear]

theorem State.endTransaction_reply (n : Nat) (ready : s.mpt.ready = true) (held : s.mpt.buffer = some p) :
    s.endTransaction n =
      { s with
        dataOut :=
          ([1, p.code, p.status.code, BitVec.ofNat 8 p.data.length] ++ p.data ++
            List.replicate (n - (4 + p.data.length)) 0).take n
        mpt := { s.mpt with ready := decide (n < 4 + p.data.length) } } := by
  have frame := Mpt.frame_of_reply ready held
  have size : s.mpt.frame.length = 4 + p.data.length := by
    rw [frame]
    simp [Reply.bytes]
    omega
  rw [State.endTransaction, clockedOut_eq, size, ready, Bool.true_and, frame]
  rfl

/-- Settles O7: by the flag, and the reply in the buffer. -/
theorem transactionReturnsTheReply : Obligations.TransactionReturnsTheReply := by
  refine fun bytes s held _ => ⟨fun clear => ?_, fun p ready buffer => ?_⟩
  · rw [exec_noCommandTransaction bytes held, State.endTransaction_clear _ clear]
  · rw [exec_noCommandTransaction bytes held, State.endTransaction_reply _ ready buffer]

/-! ### The data-out pin -/

theorem State.supersede_dataOut (s : State) (o : OutletIx) : (s.supersede o).dataOut = s.dataOut := by
  unfold State.supersede
  split <;> rfl

@[simp] theorem State.enqueue_dataOut (s : State) (a : Action) : (s.enqueue a).dataOut = s.dataOut :=
  s.supersede_dataOut a.outlet

@[simp] theorem State.choose_dataOut (s : State) : s.choose.dataOut = s.dataOut := by
  obtain ⟨outlets, rsq, nq, chosen⟩ := s.chooseAt_frame s.tly.count
  rw [State.choose, chosen]

theorem State.retireFaulted_dataOut (stamp : Nat) (s : State) (a : Action) :
    (s.retireFaulted stamp a).dataOut = s.dataOut := by
  rw [State.retireFaulted_eq]
  rfl

theorem State.load_dataOut {α : Type} (s : State) (code : Byte) (params : Option α) {write : State → α → State}
    (h : ∀ u p, (write u p).dataOut = u.dataOut) : (s.load code params write).dataOut = s.dataOut := by
  rcases s.load_cases code params write with ⟨-, e⟩ | ⟨-, -, e⟩ | ⟨p, -, -, e⟩ <;> rw [e]
  · rfl
  · rfl
  · exact h s p

theorem State.openByStanding_dataOut (s : State) (o : OutletIx) : (s.openByStanding o).dataOut = s.dataOut := by
  unfold State.openByStanding
  dsimp only
  split
  · split <;> simp
  all_goals rfl

theorem State.closeManual_dataOut (s : State) (o : OutletIx) : (s.closeManual o).dataOut = s.dataOut := by
  unfold State.closeManual
  dsimp only
  split <;> simp

theorem State.acceptRearm_dataOut (s : State) (o : OutletIx) : (s.acceptRearm o).dataOut = s.dataOut := by
  have flushed := foldl_fixes (g := State.dataOut) (State.retireFaulted_dataOut s.tly.count) (s.rsq.allQueuedFor o)
    { s with rsq := s.rsq.remove o }
  simpa [State.acceptRearm] using flushed

theorem State.rearmFaulted_dataOut (s : State) (o : OutletIx) : (s.rearmFaulted o).dataOut = s.dataOut := by
  unfold State.rearmFaulted
  split
  · split
    · exact s.acceptRearm_dataOut o
    · rfl
  · split
    · rfl
    · split
      · exact s.acceptRearm_dataOut o
      · rfl

theorem State.outletCommand_dataOut (s : State) (code : Byte) (index : Nat) {work : State → OutletIx → State}
    (h : ∀ u o, (work u o).dataOut = u.dataOut) : (s.outletCommand code index work).dataOut = s.dataOut := by
  unfold State.outletCommand
  split
  · rfl
  · split
    · exact h _ _
    · rfl

theorem State.clear_dataOut (s : State) (t : ClearTarget) : (s.clear t).dataOut = s.dataOut := by cases t <;> rfl

theorem State.enterWarmup_dataOut (s : State) : s.enterWarmup.dataOut = s.dataOut := by
  obtain ⟨v, -, entered⟩ := s.enterWarmup_eq
  rw [entered]

theorem State.restarted_dataOut (s : State) : s.restarted.dataOut = s.dataOut := by
  obtain ⟨v, frame, -⟩ := s.restarted_frame
  rw [frame]
  rfl

/-! ### Port commands -/

/-- What a command does is a port command's transaction, length check and work, and the work leaves the data-out pin. -/
def IsPortCommand (code : Byte) (len : Nat) (r : Record) (does : State → Host.Outcome State Fault Refusal) : Prop :=
  ∃ work : State → State, (∀ s, does s = portCommand code len r s work) ∧ ∀ u, (work u).dataOut = u.dataOut

theorem isPortCommand {work : State → State} (h : ∀ u, (work u).dataOut = u.dataOut) :
    IsPortCommand code len r fun s => portCommand code len r s work := ⟨work, fun _ => rfl, h⟩

theorem execReadStatus_isPort (r : Record) : IsPortCommand 1 0 r (execReadStatus r) :=
  isPortCommand fun _ => rfl

theorem execReadTenant_isPort (r : Record) : IsPortCommand 2 1 r (execReadTenant r) :=
  isPortCommand fun _ => by split <;> rfl

theorem execReadOutlet_isPort (r : Record) : IsPortCommand 3 1 r (execReadOutlet r) :=
  isPortCommand fun _ => by split <;> rfl

theorem execReadBranch_isPort (r : Record) : IsPortCommand 4 1 r (execReadBranch r) :=
  isPortCommand fun _ => by split <;> rfl

theorem execReadContribution_isPort (r : Record) : IsPortCommand 5 0 r (execReadContribution r) :=
  isPortCommand fun _ => rfl

theorem execSetCursor_isPort (r : Record) : IsPortCommand 6 1 r (execSetCursor r) :=
  isPortCommand fun _ => by split <;> rfl

theorem execReadNotices_isPort (r : Record) : IsPortCommand 7 1 r (execReadNotices r) :=
  isPortCommand fun _ => by dsimp only; split <;> rfl

theorem execLoadStation_isPort (r : Record) : IsPortCommand 16 11 r (execLoadStation r) :=
  isPortCommand fun u => u.load_dataOut _ _ fun _ _ => rfl

theorem execLoadTenant_isPort (r : Record) : IsPortCommand 17 10 r (execLoadTenant r) :=
  isPortCommand fun u => u.load_dataOut _ _ fun _ _ => rfl

theorem execLoadOutlet_isPort (r : Record) : IsPortCommand 18 4 r (execLoadOutlet r) :=
  isPortCommand fun u => u.load_dataOut _ _ fun _ _ => rfl

theorem execLoadCalibration_isPort (r : Record) : IsPortCommand 19 11 r (execLoadCalibration r) :=
  isPortCommand fun u => u.load_dataOut _ _ fun _ _ => rfl

theorem execLoadBranch_isPort (r : Record) : IsPortCommand 20 6 r (execLoadBranch r) :=
  isPortCommand fun u => u.load_dataOut _ _ fun _ _ => rfl

theorem execLoadFixed_isPort (r : Record) : IsPortCommand 21 6 r (execLoadFixed r) :=
  isPortCommand fun u => u.load_dataOut _ _ fun _ _ => rfl

theorem execStart_isPort (r : Record) (pins : Contacts) : IsPortCommand 32 0 r (execStart r pins) :=
  isPortCommand fun u => by
    split
    · rfl
    · split
      · rfl
      · rw [State.reply_dataOut, State.enterWarmup_dataOut]
        rfl

theorem execRestart_isPort (r : Record) : IsPortCommand 33 0 r (execRestart r) :=
  isPortCommand (work := State.restarted) State.restarted_dataOut

theorem execOutletOpen_isPort (r : Record) (pins : Contacts) : IsPortCommand 48 1 r (execOutletOpen r pins) :=
  isPortCommand fun u => State.outletCommand_dataOut _ _ _ fun v o => by
    split
    · rfl
    · exact v.openByStanding_dataOut o

theorem execOutletClose_isPort (r : Record) (pins : Contacts) : IsPortCommand 49 1 r (execOutletClose r pins) :=
  isPortCommand fun u => State.outletCommand_dataOut _ _ _ fun v o => by
    split
    · rfl
    · exact v.closeManual_dataOut o

theorem execRearm_isPort (r : Record) (pins : Contacts) : IsPortCommand 50 1 r (execRearm r pins) :=
  isPortCommand fun u => State.outletCommand_dataOut _ _ _ fun v o => by
    split
    · rfl
    · exact v.rearmFaulted_dataOut o

theorem execSetBand_isPort (r : Record) : IsPortCommand 51 1 r (execSetBand r) :=
  isPortCommand fun u => by
    split
    · rfl
    · split <;> rfl

theorem execClearCounters_isPort (r : Record) : IsPortCommand 52 2 r (execClearCounters r) :=
  isPortCommand fun u => by
    split
    · rfl
    · split
      · exact u.clear_dataOut _
      · rfl

/-- Each command of R180's table is a port command of its code and length. -/
theorem exec_of_portRow (h : portRow c = some (code, len, r)) : IsPortCommand code len r (exec c) := by
  cases c with
  | readStatus rec => cases h; exact execReadStatus_isPort r
  | readTenant rec => cases h; exact execReadTenant_isPort r
  | readOutlet rec => cases h; exact execReadOutlet_isPort r
  | readBranch rec => cases h; exact execReadBranch_isPort r
  | readContribution rec => cases h; exact execReadContribution_isPort r
  | setCursor rec => cases h; exact execSetCursor_isPort r
  | readNotices rec => cases h; exact execReadNotices_isPort r
  | loadStation rec => cases h; exact execLoadStation_isPort r
  | loadTenant rec => cases h; exact execLoadTenant_isPort r
  | loadOutlet rec => cases h; exact execLoadOutlet_isPort r
  | loadCalibration rec => cases h; exact execLoadCalibration_isPort r
  | loadBranch rec => cases h; exact execLoadBranch_isPort r
  | loadFixed rec => cases h; exact execLoadFixed_isPort r
  | start rec levels => cases h; exact execStart_isPort r levels
  | restart rec => cases h; exact execRestart_isPort r
  | outletOpen rec levels => cases h; exact execOutletOpen_isPort r levels
  | outletClose rec levels => cases h; exact execOutletClose_isPort r levels
  | rearm rec levels => cases h; exact execRearm_isPort r levels
  | setBand rec => cases h; exact execSetBand_isPort r
  | clearCounters rec => cases h; exact execClearCounters_isPort r
  | _ => cases h

theorem exec_cutShortRecord (code len : Byte) (given : List Byte) (held : s.resetHeld = false) :
    exec (.cutShortRecord code len given) s = .next (answered s ⟨given, []⟩ code .badArgument []) := by
  rw [exec, execCutShortRecord, unlessHeld_free held]
  rfl

theorem exec_unknownCommandCode (code : Byte) (r : Record) (held : s.resetHeld = false) :
    exec (.unknownCommandCode code r) s = .next (answered s r code .unknownCommand []) := by
  rw [exec, execUnknownCommandCode, unlessHeld_free held]
  rfl

/-- Settles O8: the two answers to no command, and the length check before any command's work. -/
theorem badRecordsAndLengthsAreRefused : Obligations.BadRecordsAndLengthsAreRefused := by
  refine ⟨fun s held => ⟨fun code len given _ => exec_cutShortRecord code len given held,
    fun code r _ => exec_unknownCommandCode code r held⟩, fun c code len r s row held wrong => ?_⟩
  obtain ⟨work, run, -⟩ := exec_of_portRow row
  rw [run, portCommand_refuse held wrong]
  rfl

/-! ### Commands outside their phase -/

/-- Where the phase makes the work a refusal, nothing but the reply changes. -/
theorem portCommand_wrongPhase {work : State → State} (held : s.resetHeld = false) (sized : r.params.length = len)
    (refuses : ∀ u, u.mpt.phase = s.mpt.phase → work u = u.refuse code .wrongState) :
    portCommand code len r s work = .next (answered s r code .wrongState []) := by
  have refused := refuses (s.endTransaction (2 + r.params.length + r.trailing.length)) rfl
  rw [portCommand_work held sized, refused]
  rfl

theorem portCommand_load_wrongPhase {α : Type} {params : Option α} {write : State → α → State}
    (held : s.resetHeld = false) (sized : r.params.length = len) (phase : s.mpt.phase ≠ .config) :
    portCommand code len r s (fun s => s.load code params write) = .next (answered s r code .wrongState []) :=
  portCommand_wrongPhase held sized fun _ same => if_pos (same ▸ phase)

/-- The LOADs and START, whose work outside CONFIG is a refusal (R161, R162). -/
theorem exec_configOnly (row : portRow c = some (code, len, r)) (bound : code.toNat ∈ [16, 17, 18, 19, 20, 21, 32])
    (held : s.resetHeld = false) (sized : r.params.length = len) (phase : s.mpt.phase ≠ .config) :
    exec c s = .next (answered s r code .wrongState []) := by
  cases c with
  | loadStation rec => cases row; exact portCommand_load_wrongPhase held sized phase
  | loadTenant rec => cases row; exact portCommand_load_wrongPhase held sized phase
  | loadOutlet rec => cases row; exact portCommand_load_wrongPhase held sized phase
  | loadCalibration rec => cases row; exact portCommand_load_wrongPhase held sized phase
  | loadBranch rec => cases row; exact portCommand_load_wrongPhase held sized phase
  | loadFixed rec => cases row; exact portCommand_load_wrongPhase held sized phase
  | start rec levels => cases row; exact portCommand_wrongPhase held sized fun _ same => if_pos (same ▸ phase)
  | _ => cases row <;> exact absurd bound (by decide)

/-- SET BAND and CLEAR COUNTERS, whose work outside RUN is a refusal (R161, R171). -/
theorem exec_runOnly (row : portRow c = some (code, len, r)) (bound : code.toNat ∈ [51, 52])
    (held : s.resetHeld = false) (sized : r.params.length = len) (phase : s.mpt.phase ≠ .run) :
    exec c s = .next (answered s r code .wrongState []) := by
  cases c with
  | setBand rec => cases row; exact portCommand_wrongPhase held sized fun _ same => if_pos (.inl (same ▸ phase))
  | clearCounters rec => cases row; exact portCommand_wrongPhase held sized fun _ same => if_pos (same ▸ phase)
  | _ => cases row <;> exact absurd bound (by decide)

/-- The outlet commands outside RUN, whatever their index (R161, R170). -/
theorem portCommand_outletCommand_wrongPhase {work : State → OutletIx → State} (held : s.resetHeld = false)
    (sized : r.params.length = len) (phase : s.mpt.phase ≠ .run) :
    portCommand code len r s (fun s => (s.withPins pins).outletCommand code (paramByte r 0) work) =
      .next (answered { s with contacts := pins } r code .wrongState []) :=
  (portCommand_work held sized _).trans (congrArg _ (if_pos phase))

/-- Settles O10: by the phase that the command is bound to. -/
theorem wrongPhaseIsRefused : Obligations.WrongPhaseIsRefused := by
  refine fun c code len r s row held sized => ⟨fun bound => exec_configOnly row bound held sized,
    fun bound => exec_runOnly row bound held sized, fun pins outlet phase => ?_⟩
  rcases outlet with rfl | rfl | rfl
  all_goals
    cases row
    exact portCommand_outletCommand_wrongPhase held sized phase

/-! ### The bytes and the command they carry -/

/-- The code names the command, with the contact levels presented (R180). -/
theorem commandOf_of_portRow (row : portRow c = some (code, len, r)) (brings : Brings c pins) :
    commandOf code r pins = c := by
  cases c with
  | start rec levels => cases row; cases brings; rfl
  | outletOpen rec levels => cases row; cases brings; rfl
  | outletClose rec levels => cases row; cases brings; rfl
  | rearm rec levels => cases row; cases brings; rfl
  | _ => cases row <;> rfl

theorem commandOf_unknown (h : code.toNat ∉ commandCodes) : commandOf code r pins = .unknownCommandCode code r := by
  unfold commandOf
  split
  on_goal 21 => rfl
  all_goals
    next known => exact absurd (by rw [known]; decide) h

/-- A code names a row of R180's table, or no command. -/
theorem commandOf_cases (code : Byte) (r : Record) (pins : Contacts) :
    (∃ len, portRow (commandOf code r pins) = some (code, len, r)) ∨
      code.toNat ∉ commandCodes ∧ commandOf code r pins = .unknownCommandCode code r := by
  by_cases known : code.toNat ∈ commandCodes
  · refine .inl ?_
    obtain ⟨n, hn, same⟩ : ∃ n ∈ commandCodes, code = BitVec.ofNat 8 n := ⟨_, known, by simp⟩
    subst same
    fin_cases hn
    all_goals exact ⟨_, rfl⟩
  · exact .inr ⟨known, commandOf_unknown known⟩

/-- A command of R180's table is well formed when its record is (R179). -/
theorem wf_of_portRow (row : portRow c = some (code, len, r)) (whole : r.wf = true) : c.wf = true := by
  cases c
  all_goals cases row
  all_goals exact whole

/-- What a transaction of these bytes does: as many bytes are clocked out, the returned frame first (R159, R180). -/
theorem exec_readTransaction_clocks (bytes : List Byte) (pins : Contacts) (held : s.resetHeld = false) :
    ∃ t, exec (readTransaction bytes pins) s = .next t ∧ t.dataOut = clockedOut bytes.length s.mpt.frame := by
  rcases readTransaction_cases bytes pins with ⟨-, e⟩ | ⟨code, len, rest, rfl, -, ⟨-, e⟩ | ⟨enough, e⟩⟩
  all_goals rw [e]
  · exact ⟨_, exec_noCommandTransaction bytes held, rfl⟩
  · refine ⟨_, exec_cutShortRecord code len rest held, ?_⟩
    have size : clocked ⟨rest, []⟩ = (code :: len :: rest).length := by
      simp [clocked]
      omega
    rw [← size]
    rfl
  · have size : clocked ⟨rest.take len.toNat, rest.drop len.toNat⟩ = (code :: len :: rest).length := by
      simp [clocked]
      omega
    rw [← size]
    rcases commandOf_cases code ⟨rest.take len.toNat, rest.drop len.toNat⟩ pins with ⟨n, row⟩ | ⟨-, e⟩
    · obtain ⟨work, run, keeps⟩ := exec_of_portRow row
      rw [run]
      by_cases sized : (rest.take len.toNat).length = n
      · exact ⟨_, portCommand_work held sized _, keeps _⟩
      · exact ⟨_, portCommand_refuse held sized _, rfl⟩
    · rw [e]
      exact ⟨_, exec_unknownCommandCode code _ held, rfl⟩

/-- A transaction's bytes carry a well-formed command. -/
theorem readTransaction_wf (bytes : List Byte) (pins : Contacts) : (readTransaction bytes pins).wf = true := by
  rcases readTransaction_cases bytes pins with ⟨plain, e⟩ | ⟨code, len, rest, rfl, coded, ⟨short, e⟩ | ⟨-, e⟩⟩
  all_goals rw [e]
  · simpa [Instr.wf, noCommandWf] using plain
  · simpa [Instr.wf, cutShortWf] using ⟨coded, short⟩
  · have whole : Record.wf ⟨rest.take len.toNat, rest.drop len.toNat⟩ = true := by
      have := len.isLt
      simp [Record.wf]
      omega
    rcases commandOf_cases code ⟨rest.take len.toNat, rest.drop len.toNat⟩ pins with ⟨n, row⟩ | ⟨unknown, e⟩
    · exact wf_of_portRow row whole
    · rw [e]
      simpa [Instr.wf, unknownCodeWf, unknown, whole] using coded

/-- Settles O9: the bytes by their number, code and length; whatever they carry clocks out as many. -/
theorem bytesPickTheCommand : Obligations.BytesPickTheCommand := by
  refine ⟨fun bytes pins => ⟨fun plain => ?_, ?_⟩,
    fun bytes pins s => ⟨readTransaction_wf bytes pins, rfl, fun held => ?_⟩⟩
  · rcases readTransaction_cases bytes pins with ⟨-, e⟩ | ⟨code, len, rest, rfl, coded, -⟩
    · exact e
    · exact absurd (by simpa using plain) coded
  · rintro code len rest rfl coded
    refine ⟨fun short => ?_, fun enough => ?_⟩
    · rw [readTransaction, if_neg coded, if_pos short]
    · have whole : readTransaction (code :: len :: rest) pins =
          commandOf code ⟨rest.take len.toNat, rest.drop len.toNat⟩ pins := by
        rw [readTransaction, if_neg coded, if_neg enough.not_gt]
      exact ⟨fun c n row brings => whole.trans (commandOf_of_portRow row brings),
        fun unknown => whole.trans (commandOf_unknown unknown)⟩
  · obtain ⟨t, run, out⟩ := exec_readTransaction_clocks bytes pins held
    refine ⟨t, run, ?_, fun clear => ?_, fun p ready buffer => ?_⟩
    · rw [out, clockedOut_length]
    · rw [out, clockedOut_clear _ clear]
    · rw [out, clockedOut_reply _ ready buffer]

end Sys2Proof.Machine
end

section
/-! The coding of replies and notices (R172, R179, R181, R182), and the reads of the status and of the notices (R168,
R174). -/

namespace Sys2Proof.Machine

open Sys2Proof.Claims

variable {s : State} {r : Record} {b : Byte} {more : List Byte}

/-! ### Codes and numbers -/

theorem ActionKind.code_eq (x : ActionKind) : x.code = BitVec.ofNat 8 (kindCode x) := by cases x <;> rfl

theorem Origin.code_eq (x : Origin) : x.code = BitVec.ofNat 8 (originCode x) := by cases x <;> rfl

theorem Completion.code_eq (x : Completion) : x.code = BitVec.ofNat 8 (completionCode x) := by cases x <;> rfl

theorem FaultCause.code_eq (x : FaultCause) : x.code = if x = .timeout then 0 else 1 := by cases x <;> rfl

theorem CounterKind.code_eq (x : CounterKind) : x.code = if x = .energy then 0 else 1 := by cases x <;> rfl

theorem natBytes_one (n : Nat) : natBytes 1 n = [BitVec.ofNat 8 n] := by simp [natBytes]

theorem natBytes_two (n : Nat) : natBytes 2 n = [BitVec.ofNat 8 (n / 256), BitVec.ofNat 8 n] := by simp [natBytes]

theorem natBytes_three (n : Nat) :
    natBytes 3 n = [BitVec.ofNat 8 (n / 65536), BitVec.ofNat 8 (n / 256), BitVec.ofNat 8 n] := by
  simp [natBytes]

theorem natBytes_four (n : Nat) :
    natBytes 4 n =
      [BitVec.ofNat 8 (n / 16777216), BitVec.ofNat 8 (n / 65536), BitVec.ofNat 8 (n / 256), BitVec.ofNat 8 n] := by
  simp [natBytes]

/-- The two bytes of a 16-bit value, side by side, are the value. -/
theorem append_bytes_toNat (x : BitVec 16) :
    (BitVec.ofNat 8 (x.toNat / 256) ++ BitVec.ofNat 8 x.toNat : BitVec 16) = x := by
  refine BitVec.eq_of_toNat_eq ?_
  have := x.isLt
  rw [BitVec.toNat_append, BitVec.toNat_ofNat, BitVec.toNat_ofNat, ← Nat.shiftLeft_add_eq_or_of_lt (by omega),
    Nat.shiftLeft_eq]
  omega

/-- A signed number of 16 bits is read back from its bytes (R181). -/
theorem int16Bytes_eq {i : Int} (low : -32768 ≤ i) (high : i ≤ 32767) :
    ∃ hi lo : Byte, int16Bytes i = [hi, lo] ∧ (hi ++ lo).toInt = i := by
  refine ⟨_, _, natBytes_two _, ?_⟩
  rw [append_bytes_toNat, BitVec.toInt_ofInt]
  exact Int.bmod_eq_of_le (by norm_num; omega) (by norm_num; omega)

/-- Settles O11: the tables code by code, the numbers by their width, the frame by the flag. -/
theorem repliesAreCodedByTheTables : Obligations.RepliesAreCodedByTheTables := by
  refine ⟨⟨rfl, rfl, rfl, TenantState.code_eq, ActionKind.code_eq, Origin.code_eq, Completion.code_eq,
    FaultCause.code_eq, CounterKind.code_eq, rfl⟩, ⟨rfl, rfl, rfl, rfl, rfl, rfl, rfl⟩,
    fun n => ⟨natBytes_one n, natBytes_two n, natBytes_three n, natBytes_four n⟩, fun i => int16Bytes_eq, ⟨rfl, rfl⟩,
    fun _ _ _ => ⟨rfl, rfl⟩,
    fun m n => ⟨clockedOut_clear n, fun p => clockedOut_reply n⟩⟩

/-! ### READ STATUS -/

/-- Settles O12: the transaction, and the items of the state it leaves. -/
theorem readStatusReportsAndClearsLost : Obligations.ReadStatusReportsAndClearsLost := by
  intro r s held plain
  rw [exec, execReadStatus, portCommand_work held (by rw [plain]; rfl)]
  rfl

/-! ### Notice records -/

/-- The fields of a kind, each as R182 numbers it. -/
theorem NoticeBody.fields_eq (b : NoticeBody) : b.fields = (noticeFields b).map (BitVec.ofNat 8) := by
  cases b with
  | tenantState k old new => simp [fields, noticeFields, natBytes_one, TenantState.code_eq]
  | actionDone o kind origin status =>
    simp [fields, noticeFields, natBytes_one, ActionKind.code_eq, Origin.code_eq, Completion.code_eq]
  | outletFault o cause => cases cause <;> simp [fields, noticeFields, natBytes_one, FaultCause.code]
  | slotWrap k counter => cases counter <;> simp [fields, noticeFields, natBytes_one, CounterKind.code]
  | outletWrap o => simp [fields, noticeFields, natBytes_one, CounterKind.code]
  | _ => simp [fields, noticeFields, natBytes_one, natBytes_two]

theorem noticeFields_length_le (b : NoticeBody) : (noticeFields b).length ≤ 5 := by
  cases b <;> simp [noticeFields]

theorem noticeRecord_length (n : Notice) : (noticeRecord n).length = 12 := by
  have := noticeFields_length_le n.body
  simp [noticeRecord]
  omega

/-- The first 12 bytes are the number, the stamp, the fields and the zeros up to 12 (R182). -/
theorem Notice.bytes_eq (n : Notice) : n.bytes = noticeRecord n := by
  have head : natBytes 1 n.body.number ++ natBytes 4 n.stamp ++ n.body.fields =
      ([kindNumber n.body, n.stamp / 16777216, n.stamp / 65536, n.stamp / 256, n.stamp] ++
        noticeFields n.body).map (BitVec.ofNat 8) := by
    simp [NoticeBody.number_eq, NoticeBody.fields_eq, natBytes_one, natBytes_four]
  have := noticeFields_length_le n.body
  have room : min (12 - (5 + (noticeFields n.body).length)) 7 = 7 - (noticeFields n.body).length := by omega
  rw [Notice.bytes, head, noticeRecord, List.map_append (l₂ := List.replicate _ _), List.take_append,
    List.take_of_length_le (by simp; omega), List.take_replicate, List.map_replicate, List.length_map,
    List.length_append]
  exact congrArg _ (congrArg (List.replicate · 0) room)

/-! ### READ NOTICES -/

theorem Nq.noticesData_eq (q : Nq) (n : Nat) :
    q.noticesData n =
      natBytes 1 (min n q.queue.length) ++ (q.queue.take n).flatMap noticeRecord ++
        natBytes 1 (q.queue.length - n) := by
  have records : Notice.bytes = noticeRecord := funext Notice.bytes_eq
  rw [Nq.noticesData, records, List.length_take, List.length_drop]

theorem exec_readNotices (held : s.resetHeld = false) (count : 1 ≤ b.toNat ∧ b.toNat ≤ 8) :
    exec (.readNotices ⟨[b], more⟩) s =
      .next { answered s ⟨[b], more⟩ 7 .ok (s.nq.noticesData b.toNat) with
        nq := { s.nq with queue := s.nq.queue.drop b.toNat } } := by
  rw [exec, execReadNotices, portCommand_work (len := 1) held rfl]
  exact congrArg _ (if_pos count)

theorem exec_readNotices_bad (held : s.resetHeld = false) (count : ¬ (1 ≤ b.toNat ∧ b.toNat ≤ 8)) :
    exec (.readNotices ⟨[b], more⟩) s = .next (answered s ⟨[b], more⟩ 7 .badArgument []) := by
  rw [exec, execReadNotices, portCommand_work (len := 1) held rfl]
  exact congrArg _ (if_neg count)

/-- Settles O15: by the count asked for; a record is its number, stamp and fields. -/
theorem readNoticesTakesTheOldest : Obligations.ReadNoticesTakesTheOldest := by
  refine ⟨fun b more s held => ⟨fun count => ?_, fun outside => exec_readNotices_bad held (by omega)⟩,
    fun n => ⟨n.bytes_eq, noticeRecord_length n⟩⟩
  rw [exec_readNotices held count, Nq.noticesData_eq]

/-! ### Raising a notice -/

theorem kindNumber_bounds (b : NoticeBody) : 1 ≤ kindNumber b ∧ kindNumber b ≤ 18 := by
  cases b <;> simp [kindNumber]

theorem State.raiseAt_queuedNotice (s : State) (stamp : Nat) (b : NoticeBody) :
    s.raiseAt stamp b = { s with nq := queuedNotice s.station stamp s.nq b } := s.raiseAt_eq stamp b

/-- Settles O16: the notice disabled, queued or lost. -/
theorem noticesQueueByMaskAndRoom : Obligations.NoticesQueueByMaskAndRoom := by
  intro s stamp b
  dsimp only
  obtain ⟨least, most⟩ := kindNumber_bounds b
  refine ⟨⟨least, most, b.number_eq⟩, fun disabled => ?_, fun enabled room => ?_, fun enabled full => ?_, rfl⟩
  all_goals rw [State.raiseAt_queuedNotice, queuedNotice]
  · rw [if_pos disabled]
  · rw [if_neg (by simp [enabled]), if_neg room.not_ge]
  · rw [if_neg (by simp [enabled]), if_pos full]

end Sys2Proof.Machine
end

section
/-! START refused (R163): each check by the record that fails it, and the first of a list that fails. -/

namespace Sys2Proof.Machine

open Sys2Proof.Claims

variable {s : State} {r : Record} {pins : Contacts}

/-! ### The first that fails -/

/-- The first index at which a test holds. -/
theorem find?_finRange {n : Nat} {p : Fin n → Bool} {i : Fin n} (here : p i = true)
    (below : ∀ j, j < i → ¬ p j = true) : (List.finRange n).find? p = some i := by
  refine List.find?_eq_some_iff_getElem.mpr ⟨here, i.val, by simp, by simp, fun j hj => ?_⟩
  simpa using below ⟨j, hj.trans i.isLt⟩ hj

theorem find?_finRange_eq_none {n : Nat} {p : Fin n → Bool} (all : ∀ i, ¬ p i = true) :
    (List.finRange n).find? p = none := List.find?_eq_none.mpr fun i _ => all i

/-! ### The records that fail -/

theorem State.repeatsLower_iff {k : SlotIx} :
    s.repeatsLower k = true ↔
      s.inUse k = true ∧ ∃ j, j < k ∧ s.inUse j = true ∧ (s.tenant j).tenantId = (s.tenant k).tenantId := by
  simp [State.repeatsLower, allSlots, and_assoc]

theorem State.namesFreeSlot_iff {o : OutletIx} :
    s.namesFreeSlot o = true ↔ ∃ k, (s.outlet o).slot = some k ∧ s.inUse k = false := by
  unfold State.namesFreeSlot
  cases (s.outlet o).slot with
  | none => simp
  | some k => simp

theorem State.badFixed_iff {n : FixedIx} :
    s.badFixed n = true ↔
      ∃ e, s.fixedEntry n = some e ∧ (s.inUse e.slot = false ∨ e.covers = some s.station.id) := by
  unfold State.badFixed
  cases s.fixedEntry n with
  | none => simp
  | some e => simp

/-! ### The checks in order -/

theorem State.configFault_station (unset : s.station.id = 0) : s.configFault = some (.station, 0) := if_pos unset

theorem State.configFault_noSlot (set : s.station.id ≠ 0) (free : ∀ k, s.inUse k = false) :
    s.configFault = some (.tenant, 255) := by
  have unused : s.usedSlots.isEmpty = true := by simp [State.usedSlots, free]
  rw [State.configFault, if_neg set, if_pos unused]

/-- With a station ID and a slot in use, the records are searched kind by kind. -/
theorem State.configFault_records (set : s.station.id ≠ 0) (used : ∃ k, s.inUse k = true) :
    s.configFault =
      ((allSlots.find? s.repeatsLower).map fun k => (.tenant, k.val)).or
        (((allOutlets.find? s.namesFreeSlot).map fun o => (.outlet, o.val)).or
          ((allFixed.find? s.badFixed).map fun n => (.fixed, n.val + 1))) := by
  have listed : ¬ s.usedSlots.isEmpty = true := by
    obtain ⟨k, hk⟩ := used
    simpa using List.ne_nil_of_mem (State.mem_usedSlots.mpr hk)
  rw [State.configFault, if_neg set, if_neg listed]
  cases allSlots.find? s.repeatsLower with
  | some k => rfl
  | none =>
    cases allOutlets.find? s.namesFreeSlot with
    | some o => rfl
    | none => rfl

/-- A failed check is named in the reply, and nothing else changes (R160, R163). -/
theorem exec_start_badConfig {kind : RecordKind} {index : Nat} (held : s.resetHeld = false)
    (phase : s.mpt.phase = .config) (plain : r.params = []) (fault : s.configFault = some (kind, index)) :
    exec (.start r pins) s = .next (answered s r 32 .badConfig [kind.code, BitVec.ofNat 8 index]) := by
  have ended : (s.endTransaction (2 + r.params.length + r.trailing.length)).configFault = some (kind, index) := fault
  rw [exec, execStart, portCommand_work held (by rw [plain]; rfl)]
  simp only [State.endTransaction_phase, phase, ne_eq, not_true_eq_false, if_false, ended]
  rfl

/-- Settles O22: the checks in R163's order, each reached where those before it pass. -/
theorem startRefusedNamesFirstFailure : Obligations.StartRefusedNamesFirstFailure := by
  intro r pins s held phase plain
  dsimp only
  have refused {kind : RecordKind} {index : Nat} (fault : s.configFault = some (kind, index)) :=
    exec_start_badConfig (pins := pins) held phase plain fault
  simp only [← State.repeatsLower_iff, ← State.namesFreeSlot_iff, ← State.badFixed_iff]
  refine ⟨fun unset => refused (State.configFault_station unset),
    fun set free => refused (State.configFault_noSlot set free),
    fun set k repeats first => refused (kind := .tenant) ?_, fun set used single => ?_⟩
  · have used : s.inUse k = true := (State.repeatsLower_iff.mp repeats).1
    rw [State.configFault_records set ⟨k, used⟩, allSlots, find?_finRange repeats first]
    rfl
  · have records := State.configFault_records set used
    rw [allSlots, find?_finRange_eq_none single] at records
    refine ⟨fun o names first => refused (kind := .outlet) ?_, fun named n bad first => refused (kind := .fixed) ?_⟩
    · rw [records, allOutlets, find?_finRange names first]
      rfl
    · rw [records, allOutlets, find?_finRange_eq_none named, allFixed, find?_finRange bad first]
      rfl

end Sys2Proof.Machine
end
